-- ==== Sys2Proof/Word.lean ====
section
/-! DEFINITION. The word types of the block and the plainest byte arithmetic (00_scope.md section 4; every value is unsigned). -/

namespace Sys2Proof

/-- A byte, unsigned, 0..255 (00_scope.md section 4). -/
abbrev Byte := BitVec 8

/-- A 16-bit value: a Raw Reading or the CRC register (00_scope.md R6, RW and CRCW). -/
abbrev Word := BitVec 16

end Sys2Proof
end

