-- ==== Sys2Proof/Machine/Crc.lean ====
section
/-! DEFINITION. The CRC-16 polynomial engine (40_crc16.md). -/

namespace Sys2Proof.Machine

/-- CRC_POLY of 00_scope.md R6. -/
def crcPoly : Word := 0x1021#16

/-- CRC_INIT: the initial register (40_crc16.md R101). -/
def crcInit : Word := 0xFFFF#16

/-- CRC_SHIFT1: the top bit is tested before the shift (40_crc16.md R102). -/
def crcShift1 (crc : Word) : Word :=
  if crc.getLsbD 15 then (crc <<< 1) ^^^ crcPoly else crc <<< 1

/-- `n` iterations of CRC_SHIFT1. -/
def crcShifts : Nat → Word → Word
  | 0, crc => crc
  | n + 1, crc => crcShifts n (crcShift1 crc)

/-- CRC_BYTE: the byte into the high byte of the register, then 8 iterations (40_crc16.md R103). -/
def crcByte (crc : Word) (b : Byte) : Word :=
  crcShifts 8 (crc ^^^ (b.setWidth 16 <<< 8))

/-- CRC16: the checksum of a byte sequence, no final XOR (40_crc16.md R104). -/
def crc16 (bytes : List Byte) : Word :=
  bytes.foldl crcByte crcInit

end Sys2Proof.Machine
end

