-- ==== Sys2Proof/Config.lean ====
section
/-! DEFINITION. What a build of the block fixes (00_scope.md R7) and the free values of what the spec leaves open. -/

namespace Sys2Proof

/-- A bus target address. The spec gives no value and no width (91_not_in_source.md N1), so it is a bare number that
nothing computes with. -/
abbrev BusAddr := Nat

/-- RESP_COUNT_MODE of 00_scope.md R7: whether a bus read may return more bytes than requested (42_cycle_reader.md R134). -/
inductive RespCountMode where
  /-- A read of n bytes returns 0..n bytes; the default. -/
  | bounded
  /-- A read returns 0..255 bytes, whatever it requested. -/
  | any
  deriving DecidableEq, Repr

/-- The open parameters of 00_scope.md R7, fixed for a build (10_state.md R36). -/
structure Params where
  /-- BUS_ADDR, the fixed address of the sensing controller. -/
  busAddr : BusAddr
  /-- RESP_COUNT_MODE. -/
  respCountMode : RespCountMode
  /-- HAS_CYCLE_STATUS, whether the output `cycle_ok` exists. -/
  hasCycleStatus : Bool
  deriving DecidableEq, Repr

namespace Config

/-- The bus address of the reset state. UNVERIFIED: no source gives a value, so it has no body and no proof can use one
(log 3). -/
opaque busAddr : BusAddr

/-- The parameters of the reset state: BUS_ADDR open, the other two at the defaults of 00_scope.md R7 (log 3). -/
def params : Params := { busAddr := busAddr, respCountMode := .bounded, hasCycleStatus := true }

/-- Free values of `buf` after a reset event (10_state.md R26; log 5). -/
opaque freeBuf : Nat → Vector Word 64

/-- Free values of `crc` after a reset event (10_state.md R27; log 5). -/
opaque freeCrc : Nat → Word

/-- Free values of `c` after a reset event (10_state.md R29; log 5). -/
opaque freeCycle : Nat → BitVec 4

/-- Free values of `i` after a reset event (10_state.md R30; log 5). -/
opaque freeIndex : Nat → Byte

/-- Free values of `rlen` after a reset event (10_state.md R31; log 5). -/
opaque freeRlen : Nat → Byte

/-- Free values of `rbuf`, after a reset event and beyond a response's returned count (10_state.md R31; log 5, log 6). -/
opaque freeRbuf : Nat → Vector Byte 22

/-- Free values of `fseq` after a reset event (10_state.md R32; log 5). -/
opaque freeFseq : Nat → Byte

end Config
end Sys2Proof
end

