-- ==== Sys2Proof/Machine/State.lean ====
section
/-! DEFINITION. The state of the block and of its environment, as plain data (10_state.md R20, R38), the reasons a step can
stop, and the state after reset. -/

namespace Sys2Proof.Machine

/-- The sequencer state `st`, the block's analogue of a program counter (10_state.md R28). -/
inductive SeqState where
  | idle
  | scanInit
  | cycCmd
  | cycRd22
  | cycRd10
  | cycDec
  | frmHdr
  | frmLen
  | frmSeq
  | frmPay
  | frmCrc
  | fault
  deriving DecidableEq, Repr

/-- One bus transaction as the environment sees it (10_state.md R38(d), 20_memory.md R50). -/
inductive BusEvent where
  /-- `BusWrite(addr, bytes, hold)`; `hold` says that the bus is not released at its end. -/
  | write (addr : BusAddr) (bytes : List Byte) (hold : Bool)
  /-- `BusRead(addr, n)` and the count it returned. -/
  | read (addr : BusAddr) (n : Nat) (count : Nat)
  deriving DecidableEq, Repr

/-- The bus target's answer to one read (42_cycle_reader.md R134). -/
inductive ReadAnswer where
  /-- The bytes returned; the count L is their number. -/
  | returns (bytes : List Byte)
  /-- The transaction never completes (60_exceptions.md R223). -/
  | neverCompletes
  deriving DecidableEq, Repr

/-- The bus's answer to one write (60_exceptions.md R234). -/
inductive WriteAnswer where
  /-- It completes, acknowledged or not; the block does not look (42_cycle_reader.md R131). -/
  | completes (acknowledged : Bool)
  /-- It never completes (60_exceptions.md R223). -/
  | neverCompletes
  deriving DecidableEq, Repr

/-- The frame output port's answer to one byte (60_exceptions.md R234). -/
inductive TxAnswer where
  | accepted
  /-- The transport reports a failure (60_exceptions.md R222). -/
  | failed
  /-- The byte is never accepted (60_exceptions.md R224). -/
  | neverAccepted
  deriving DecidableEq, Repr

/-- The environment's state (10_state.md R38): what it has received, and what it will do at its ports. Every list is
oldest first. DESIGN CHOICE: what happens once a list of answers is used up is said beside each, and in log 1. -/
structure Env where
  /-- Command bytes offered and not yet taken; empty: none available. -/
  cmdIn : List Byte
  /-- Bytes the block has emitted. -/
  txOut : List Byte
  /-- Answers to the coming bus reads; used up: L = 0 (30_encoding.md R79). -/
  busRd : List ReadAnswer
  /-- Answers to the coming bus writes; used up: the write completes. -/
  busWr : List WriteAnswer
  /-- Answers to the coming output bytes; used up: the byte is accepted. -/
  txPort : List TxAnswer
  /-- Bus transactions issued. -/
  busLog : List BusEvent
  /-- What the reset input carries at the coming step boundaries; used up: no reset (log 10). -/
  resetIn : List Bool
  deriving DecidableEq, Repr

/-- Everything that persists from one step to the next. -/
structure State where
  /-- The build's parameters (00_scope.md R7); no step writes them. -/
  params : Params
  /-- `st`, the sequencer state (10_state.md R28). -/
  st : SeqState
  /-- `seq`, the sequence counter (10_state.md R22). -/
  seq : Byte
  /-- `buf`, the reading buffer (10_state.md R24). -/
  buf : Vector Word 64
  /-- `crc`, the CRC register (10_state.md R27). -/
  crc : Word
  /-- `c`, the current cycle index (10_state.md R29). -/
  c : BitVec 4
  /-- `i`, the byte index within the frame field (10_state.md R30). -/
  i : Byte
  /-- `rlen`, the returned length kept for decode (10_state.md R31). -/
  rlen : Byte
  /-- `rbuf`, the response bytes kept for decode (10_state.md R31). -/
  rbuf : Vector Byte 22
  /-- `fseq`, the sequence value just sent (10_state.md R32). -/
  fseq : Byte
  /-- `cycle_ok`, one bit a cycle (10_state.md R33); never written where HAS_CYCLE_STATUS is false. -/
  cycleOk : BitVec 16
  /-- The model's own: the index of the next free value (log 5). -/
  draws : Nat
  /-- The environment (10_state.md R38); a reset event does not touch it. -/
  env : Env
  deriving DecidableEq, Repr

/-- Why the machine stops. -/
inductive Fault where
  /-- Raised by a step from FAULT that no reset precedes: FAULT has no successor but reset (60_exceptions.md R222). Safe. -/
  | txPortFailure
  /-- Raised by a bus write or read that never completes: the block is stuck for ever (60_exceptions.md R223). Safe. -/
  | busStall
  /-- Raised by an output byte that is never accepted: the block is stuck for ever (60_exceptions.md R224). Safe. -/
  | outputStall
  deriving DecidableEq, Repr

/-- Why the model gives no meaning. -/
inductive Refusal where
  /-- Raised by an arm of exec without a meaning yet; no arm is one. Safe. -/
  | notModelled (mnemonic : String)
  deriving DecidableEq, Repr

/-- The environment of the reset state: nothing offered, nothing received, nothing listed (log 1). -/
def Env.start : Env :=
  { cmdIn := [], txOut := [], busRd := [], busWr := [], txPort := [], busLog := [], resetIn := [] }

/-- The machine right after reset (70_reset_and_hazards.md R240): `st`, `seq` and `cycle_ok` as the spec gives them.
DESIGN CHOICE, unsafe: the elements it leaves unspecified are 0 here (log 4). -/
def State.reset : State :=
  { params := Config.params
    st := .idle
    seq := 0#8
    buf := Vector.replicate 64 0#16
    crc := 0#16
    c := 0#4
    i := 0#8
    rlen := 0#8
    rbuf := Vector.replicate 22 0#8
    fseq := 0#8
    cycleOk := 0#16
    draws := 0
    env := Env.start }

end Sys2Proof.Machine
end

