-- ==== Sys2Proof/Machine/Flags.lean ====
section
/-! DEFINITION. The status outputs: `busy` and `cycle_ok` (10_state.md R33 to R35). The block has no other flag. -/

namespace Sys2Proof.Machine

/-- `busy`: 1 exactly when `st` is not IDLE (10_state.md R34). -/
def State.busy (s : State) : Bool := s.st != .idle

/-- The `cycle_ok` output, absent where HAS_CYCLE_STATUS is false (10_state.md R33). -/
def State.cycleOkOutput (s : State) : Option (BitVec 16) :=
  if s.params.hasCycleStatus then some s.cycleOk else none

/-- `v` with bit `c` written. -/
def writeBit (v : BitVec 16) (c : BitVec 4) (b : Bool) : BitVec 16 :=
  if b then v ||| (1#16 <<< c.toNat) else v &&& ~~~(1#16 <<< c.toNat)

/-- `cycle_ok[c] <- ok`, only when HAS_CYCLE_STATUS (42_cycle_reader.md R135, R136). -/
def State.setCycleOk (c : BitVec 4) (ok : Bool) (s : State) : State :=
  { s with cycleOk := if s.params.hasCycleStatus then writeBit s.cycleOk c ok else s.cycleOk }

/-- `cycle_ok <- 0x0000`, only when HAS_CYCLE_STATUS (43_scan_aggregator.md R160, 70_reset_and_hazards.md R240). -/
def State.clearCycleOk (s : State) : State :=
  { s with cycleOk := if s.params.hasCycleStatus then 0#16 else s.cycleOk }

end Sys2Proof.Machine
end

