-- ==== Sys2Proof/Machine/IndexMap.lean ====
section
/-! DEFINITION. The cycle-to-electrode index mapper (41_index_map.md): combinational, no state. -/

namespace Sys2Proof.Machine

/-- MAP(c, k): E = 8 * (c >> 1) + 2 * k + (c AND 1), a 6-bit result (41_index_map.md R120). -/
def mapIndex (c : BitVec 4) (k : BitVec 2) : BitVec 6 :=
  8#6 * (c >>> 1).setWidth 6 + 2#6 * k.setWidth 6 + (c &&& 1#4).setWidth 6

/-- MAP_INV(E): c = 2 * (E >> 3) + (E AND 1), k = (E >> 1) AND 3 (41_index_map.md R122). Not an operation of the block. -/
def mapInverse (e : BitVec 6) : BitVec 4 × BitVec 2 :=
  (2#4 * (e >>> 3).setWidth 4 + (e &&& 1#6).setWidth 4, (e >>> 1 &&& 3#6).setWidth 2)

end Sys2Proof.Machine
end

