-- ==== Sys2Proof/Machine/Operands.lean ====
section
/-! DEFINITION. Byte order, layouts and fixed sequences: how the block's values are read from and written as bytes
(20_memory.md R52 to R54; 30_encoding.md R72 to R77). -/

namespace Sys2Proof.Machine

/-- REQ_FULL of 00_scope.md R6. -/
def reqFull : Nat := 22

/-- REQ_FALLBACK of 00_scope.md R6. -/
def reqFallback : Nat := 10

/-- The largest count a read of `n` bytes returns (42_cycle_reader.md R134). -/
def maxCount : RespCountMode → Nat → Nat
  | .bounded, n => n
  | .any, _ => 255

/-- Bits [7:0] of a 16-bit value. -/
def lowByte (v : Word) : Byte := v.extractLsb' 0 8

/-- Bits [15:8] of a 16-bit value. -/
def highByte (v : Word) : Byte := v.extractLsb' 8 8

/-- The bytes of a 16-bit value as the block emits them: low byte first (20_memory.md R52). -/
def leBytes (v : Word) : List Byte := [lowByte v, highByte v]

/-- A 16-bit value from its low and high byte (20_memory.md R53). -/
def fromLE (low high : Byte) : Word := low.setWidth 16 ||| (high.setWidth 16 <<< 8)

/-- The value of element `k` of the response held in `rbuf`: bytes 8 + 4k and 9 + 4k (20_memory.md R53). -/
def elementValue (rbuf : Vector Byte 22) (k : BitVec 2) : Word :=
  fromLE (rbuf[8 + 4 * k.toNat]'(by have := k.isLt; omega)) (rbuf[9 + 4 * k.toNat]'(by have := k.isLt; omega))

/-- Whether a response of `rlen` bytes holds element `k` whole: 6 + 4k + 3 < rlen (42_cycle_reader.md R136). -/
def elementPresent (rlen : Byte) (k : BitVec 2) : Bool := 6 + 4 * k.toNat + 3 < rlen.toNat

/-- Payload byte `j`: the low byte of entry j >> 1 where j is even, its high byte where j is odd (20_memory.md R54). -/
def payloadByte (buf : Vector Word 64) (j : BitVec 7) : Byte :=
  let v := buf[(j >>> 1).toNat]'(by have := j.isLt; simp only [BitVec.toNat_ushiftRight, Nat.shiftRight_eq_div_pow]; omega)
  if j.getLsbD 0 then highByte v else lowByte v

/-- The 128 payload bytes of a frame, in offset order (20_memory.md R54). -/
def payload (buf : Vector Word 64) : List Byte :=
  (List.range 128).map fun j => payloadByte buf (BitVec.ofNat 7 j)

/-- HDR of 00_scope.md R6: "CA64" (30_encoding.md R75). -/
def header : List Byte := [0x43#8, 0x41#8, 0x36#8, 0x34#8]

/-- The length field: 128, little-endian (30_encoding.md R75, 44_frame_encoder.md R181). -/
def lengthField : List Byte := [0x80#8, 0x00#8]

/-- Header byte `i` of 44_frame_encoder.md R180. DESIGN CHOICE: an index above 3, which no run reaches, has its low two
bits taken (log 12). -/
def headerByte (i : Byte) : Byte :=
  header[(i.setWidth 2).toNat]'(by have := (i.setWidth 2).isLt; simpa [header] using this)

/-- Length byte `i` of 44_frame_encoder.md R181. DESIGN CHOICE: an index above 1, which no run reaches, has its low bit
taken (log 12). -/
def lengthByte (i : Byte) : Byte :=
  lengthField[(i.setWidth 1).toNat]'(by have := (i.setWidth 1).isLt; simpa [lengthField] using this)

/-- CRC byte `i` of 44_frame_encoder.md R184: the low byte at 0, the high byte at 1. DESIGN CHOICE: an index above 1,
which no run reaches, has its low bit taken (log 12). -/
def crcTrailerByte (crc : Word) (i : Byte) : Byte :=
  if i.getLsbD 0 then highByte crc else lowByte crc

end Sys2Proof.Machine
end

