-- ==== Sys2Proof/Machine/Ops.lean ====
section
/-! DEFINITION. The operations the meanings share: register writes, the port primitives of 20_memory.md R50, raising the
one fault (60_exceptions.md R222) and the reset event (70_reset_and_hazards.md R240). -/

namespace Sys2Proof.Machine

/-! Register writes. -/

/-- `st <- t` (00_scope.md section 4). -/
def State.goto (t : SeqState) (s : State) : State := { s with st := t }

/-- `i <- n`. -/
def State.setIndex (n : Byte) (s : State) : State := { s with i := n }

/-- `c <- n`. -/
def State.setCycle (n : BitVec 4) (s : State) : State := { s with c := n }

/-- `buf[e] <- v`, one whole 16-bit entry (20_memory.md R55, R57). -/
def State.setEntry (e : BitVec 6) (v : Word) (s : State) : State :=
  { s with buf := s.buf.set e.toNat v e.isLt }

/-- `buf[e] <- 0x0000` for every e. -/
def State.clearBuffer (s : State) : State := { s with buf := Vector.replicate 64 0#16 }

/-- `CRC_INIT` on the register (40_crc16.md R101). -/
def State.seedCrc (s : State) : State := { s with crc := crcInit }

/-- `CRC_BYTE(b)` on the register (40_crc16.md R103). -/
def State.absorb (b : Byte) (s : State) : State := { s with crc := crcByte s.crc b }

/-- `fseq <- seq`, then `seq <- (seq + 1) mod 256` (44_frame_encoder.md R182). -/
def State.advanceSeq (s : State) : State := { s with fseq := s.seq, seq := s.seq + 1#8 }

/-- Keep a response for decode (42_cycle_reader.md R132, R133): `rlen` is the count, saturated at 255, and `rbuf[j]` the
j-th byte; bytes beyond the 22nd are dropped (10_state.md R31). Entries beyond the count hold free values (log 6). -/
def State.keepResponse (bytes : List Byte) (s : State) : State :=
  { s with
    rlen := BitVec.ofNat 8 (min bytes.length 255)
    rbuf := Vector.ofFn fun j : Fin 22 => bytes.getD j.val (Config.freeRbuf s.draws)[j]
    draws := if bytes.length < 22 then s.draws + 1 else s.draws }

/-! The environment's side of the ports. -/

/-- The command input after a take: `rest` is what remains offered. -/
def State.leaveOffered (rest : List Byte) (s : State) : State := { s with env := { s.env with cmdIn := rest } }

/-- One byte appended to the emitted stream. -/
def State.emit (b : Byte) (s : State) : State := { s with env := { s.env with txOut := s.env.txOut ++ [b] } }

/-- One transaction appended to the record. -/
def State.record (e : BusEvent) (s : State) : State := { s with env := { s.env with busLog := s.env.busLog ++ [e] } }

/-- The answer of the frame output port to the next byte; used up: accepted (log 1). -/
def State.txAnswer (s : State) : TxAnswer := s.env.txPort.headD .accepted

/-- That answer has been given. -/
def State.dropTxAnswer (s : State) : State := { s with env := { s.env with txPort := s.env.txPort.tail } }

/-- The answer to the next bus write; used up: it completes (log 1). -/
def State.writeAnswer (s : State) : WriteAnswer := s.env.busWr.headD (.completes true)

/-- That answer has been given. -/
def State.dropWriteAnswer (s : State) : State := { s with env := { s.env with busWr := s.env.busWr.tail } }

/-- The answer to the next bus read; used up: L = 0 (30_encoding.md R79; log 1). -/
def State.readAnswer (s : State) : ReadAnswer := s.env.busRd.headD (.returns [])

/-- That answer has been given. -/
def State.dropReadAnswer (s : State) : State := { s with env := { s.env with busRd := s.env.busRd.tail } }

/-- The answer bytes that fit the range of 42_cycle_reader.md R134. DESIGN CHOICE: what a listed answer holds beyond the
range is not delivered, so that every list is an environment the spec allows (log 2). -/
def delivered (mode : RespCountMode) (n : Nat) (bytes : List Byte) : List Byte := bytes.take (maxCount mode n)

/-! The fault and the reset event. -/

/-- `raise Fault(TxPortFailure)`: `st <- FAULT`, nothing saved, nothing else changed (60_exceptions.md R222, R227; log 9). -/
def State.raiseFault (s : State) : State := s.goto .fault

/-- The reset event, from any state (70_reset_and_hazards.md R240): `st`, `seq` and `cycle_ok` as the spec says, every
other element of the block a free value (log 5), the environment and the parameters untouched. -/
def State.resetEvent (s : State) : State :=
  { State.clearCycleOk s with
    st := .idle
    seq := 0#8
    buf := Config.freeBuf s.draws
    crc := Config.freeCrc s.draws
    c := Config.freeCycle s.draws
    i := Config.freeIndex s.draws
    rlen := Config.freeRlen s.draws
    rbuf := Config.freeRbuf s.draws
    fseq := Config.freeFseq s.draws
    draws := s.draws + 1 }

/-- Whether a reset is offered at this step boundary (70_reset_and_hazards.md R241; log 10). -/
def State.resetOffered (s : State) : Bool := s.env.resetIn.headD false

/-- The reset input of this boundary has been looked at. -/
def State.sampleReset (s : State) : State := { s with env := { s.env with resetIn := s.env.resetIn.tail } }

/-! The port primitives of 20_memory.md R50. Each blocks until the collaborator completes it (R59). -/

/-- `TxPut(b)`, and then `andThen`. A failure raises the fault (60_exceptions.md R222), a byte never accepted leaves the
block stuck (R224); in neither is the byte emitted or `andThen` done. -/
def txPut (b : Byte) (andThen : State → State) (s : State) : Host.Outcome State Fault Refusal :=
  match s.txAnswer with
  | .accepted => .next (andThen (s.dropTxAnswer.emit b))
  | .failed => .next s.dropTxAnswer.raiseFault
  | .neverAccepted => .fault .outputStall

/-- `BusWrite(BUS_ADDR, bytes, hold)`, and then `andThen`; whether it was acknowledged is not looked at
(42_cycle_reader.md R131). -/
def busWrite (bytes : List Byte) (hold : Bool) (andThen : State → State) (s : State) :
    Host.Outcome State Fault Refusal :=
  match s.writeAnswer with
  | .completes _ => .next (andThen (s.dropWriteAnswer.record (.write s.params.busAddr bytes hold)))
  | .neverCompletes => .fault .busStall

/-- `BusRead(BUS_ADDR, n)`, and then `andThen` on the bytes returned (42_cycle_reader.md R134). -/
def busRead (n : Nat) (andThen : List Byte → State → State) (s : State) : Host.Outcome State Fault Refusal :=
  match s.readAnswer with
  | .returns listed =>
    let bytes := delivered s.params.respCountMode n listed
    .next (andThen bytes (s.dropReadAnswer.record (.read s.params.busAddr n bytes.length)))
  | .neverCompletes => .fault .busStall

end Sys2Proof.Machine
end

