-- ==== Sys2Proof/Machine/Command.lean ====
section
/-! DEFINITION. The command bytes (45_command_dispatch.md R211 to R213). The byte has been taken by the IDLE step (R210)
before a meaning runs. -/

namespace Sys2Proof.Machine

/-- What both triggers do: `st <- SCAN_INIT` (45_command_dispatch.md R211). -/
def startScan (s : State) : State := s.goto .scanInit

/-- SCAN.r (45_command_dispatch.md R211). -/
def execScanLower (s : State) : Host.Outcome State Fault Refusal := .next (startScan s)

/-- SCAN.R, the same effect (45_command_dispatch.md R212). -/
def execScanUpper (s : State) : Host.Outcome State Fault Refusal := .next (startScan s)

/-- DISCARD: `st <- IDLE`, nothing else changes, whatever the byte was (45_command_dispatch.md R213). -/
def execDiscard (_b : Byte) (s : State) : Host.Outcome State Fault Refusal := .next (s.goto .idle)

end Sys2Proof.Machine
end

