-- ==== Sys2Proof/Syntax.lean ====
section
/-! DEFINITION. The encoded instructions: one constructor for each row of spec/opcode_table.json (00_scope.md R3,
30_encoding.md R71, R72). The sequencer's other operations have no encoding (30_encoding.md, first paragraph) and stand
under Machine/. -/

namespace Sys2Proof

inductive Instr where
  /-- `SCAN.r`, command byte 0x72 (45_command_dispatch.md R211). -/
  | scanLower
  /-- `SCAN.R`, command byte 0x52 (45_command_dispatch.md R212). -/
  | scanUpper
  /-- `DISCARD`, any other command byte `b` (45_command_dispatch.md R213). DESIGN CHOICE, safe: the byte is kept so that
  the encoder can give it back; its meaning does not use it (log 11). -/
  | discard (b : Byte)
  /-- `BUSREQ.READ_CYCLE`, the request the block builds for cycle `c` (42_cycle_reader.md R131). -/
  | readCycle (c : BitVec 4)
  deriving DecidableEq, Repr

end Sys2Proof
end

