-- ==== Sys2Proof/WellFormed.lean ====
section
/-! DEFINITION. Which terms of Instr stand for an encoding of the spec. -/

namespace Sys2Proof

/-- A `DISCARD` carries none of the two trigger bytes (30_encoding.md R71); every other term is an encoding whatever its
operand, since a 4-bit cycle index is always 0..15 (30_encoding.md R72). -/
def Instr.wf : Instr → Bool
  | .scanLower => true
  | .scanUpper => true
  | .discard b => b != 0x72#8 && b != 0x52#8
  | .readCycle _ => true

end Sys2Proof
end

