-- ==== Sys2Proof/Decode.lean ====
section
/-! DEFINITION. From bytes to instructions and back (30_encoding.md R70 to R72, R78, R80). -/

namespace Sys2Proof

/-- The encoded formats with a row in the opcode table (30_encoding.md R70): which port the bytes stand on says which. -/
inductive Format where
  /-- One byte on the command input. -/
  | cmd
  /-- Three bytes of one bus write. -/
  | busreq
  deriving DecidableEq, Repr

/-- Why bytes are no instruction. Only the bus request has such bytes: no command byte is illegal (30_encoding.md R78). -/
inductive DecodeError where
  /-- Fewer bytes than the format has. -/
  | truncated
  /-- Byte 0 of a bus request is not the command code 0x01 (30_encoding.md R72). -/
  | badCommandCode
  /-- Byte 1 of a bus request is not the sensor identifier 0x00 (30_encoding.md R72). -/
  | badSensorId
  /-- Byte 2 of a bus request has one of its bits [7:4] set (30_encoding.md R72). -/
  | badCycleByte
  deriving DecidableEq, Repr

/-- What a decoder answers: an instruction with the bytes after it, or a reason. -/
inductive Decoded where
  | ok (i : Instr) (rest : List Byte)
  | rejected (e : DecodeError)
  deriving DecidableEq, Repr

/-- The trigger byte 'r' (30_encoding.md R71). -/
def trigLower : Byte := 0x72#8

/-- The trigger byte 'R' (30_encoding.md R71). -/
def trigUpper : Byte := 0x52#8

/-- BUS_CMD of 00_scope.md R6: the command code of a bus request. -/
def busCmd : Byte := 0x01#8

/-- SENSOR_ID of 00_scope.md R6: the sensor identifier of a bus request. -/
def sensorId : Byte := 0x00#8

/-- The command byte map: all 8 bits compared, first with 0x72, then with 0x52 (30_encoding.md R71, R80). -/
def decodeCommand (b : Byte) : Instr :=
  if b = trigLower then .scanLower
  else if b = trigUpper then .scanUpper
  else .discard b

/-- The three bytes of a bus request (30_encoding.md R72). The block never decodes one (R80): this reads the opcode
table's row `BUSREQ.READ_CYCLE`. -/
def decodeRequest (b0 b1 b2 : Byte) (rest : List Byte) : Decoded :=
  if b0 ≠ busCmd then .rejected .badCommandCode
  else if b1 ≠ sensorId then .rejected .badSensorId
  else if b2.extractLsb' 4 4 ≠ 0#4 then .rejected .badCycleByte
  else .ok (.readCycle (b2.extractLsb' 0 4)) rest

/-- The decoder: total on any bytes, and it never has to find a length (30_encoding.md R70). -/
def decode : Format → List Byte → Decoded
  | .cmd, [] => .rejected .truncated
  | .cmd, b :: rest => .ok (decodeCommand b) rest
  | .busreq, b0 :: b1 :: b2 :: rest => decodeRequest b0 b1 b2 rest
  | .busreq, _ => .rejected .truncated

/-- The format an instruction is encoded in (spec/opcode_table.json, "format"). -/
def Instr.format : Instr → Format
  | .scanLower => .cmd
  | .scanUpper => .cmd
  | .discard _ => .cmd
  | .readCycle _ => .busreq

/-- The bytes of an instruction, first in time first (30_encoding.md R71, R72). -/
def encode : Instr → List Byte
  | .scanLower => [trigLower]
  | .scanUpper => [trigUpper]
  | .discard b => [b]
  | .readCycle c => [busCmd, sensorId, c.setWidth 8]

/-- The bytes a number of the opcode table stands for. A 24-bit row has its own word convention,
word = (byte0 << 16) | (byte1 << 8) | byte2 (spec/opcode_table.json, BUSREQ.READ_CYCLE, "word_convention"; log 11). -/
def tableBytes (nbits w : Nat) : Option (Format × List Byte) :=
  if 2 ^ nbits ≤ w then none
  else if nbits = 8 then some (.cmd, [BitVec.ofNat 8 w])
  else if nbits = 24 then some (.busreq, [BitVec.ofNat 8 (w >>> 16), BitVec.ofNat 8 (w >>> 8), BitVec.ofNat 8 w])
  else none

/-- The instruction the decoder reads from a number of the opcode table. -/
def decodeTableWord (nbits w : Nat) : Option Instr :=
  match tableBytes nbits w with
  | none => none
  | some (f, bytes) =>
    match decode f bytes with
    | .ok i _ => some i
    | .rejected _ => none

end Sys2Proof
end

