-- ==== Sys2Proof/Machine/CycleReader.lean ====
section
/-! DEFINITION. The cycle reader: request, reads and decode of one cycle (42_cycle_reader.md), with the scan advance that
ends the decode step (43_scan_aggregator.md R163). -/

namespace Sys2Proof.Machine

/-- BUSREQ.READ_CYCLE, the CYC_CMD operation: one bus write of the request, the bus held (42_cycle_reader.md R131). -/
def execReadCycle (c : BitVec 4) (s : State) : Host.Outcome State Fault Refusal :=
  busWrite (encode (.readCycle c)) true (State.goto .cycRd22) s

/-- What CYC_RD22 does with the bytes returned: kept when there are exactly 22, else dropped (42_cycle_reader.md R132). -/
def afterFullRead (bytes : List Byte) (s : State) : State :=
  if bytes.length = reqFull then (s.keepResponse bytes).goto .cycDec else s.goto .cycRd10

/-- CYC_RD22 (42_cycle_reader.md R132). -/
def cycRd22 (s : State) : Host.Outcome State Fault Refusal := busRead reqFull afterFullRead s

/-- What CYC_RD10 does with the bytes returned: kept, whatever their number (42_cycle_reader.md R133). -/
def afterFallbackRead (bytes : List Byte) (s : State) : State := (s.keepResponse bytes).goto .cycDec

/-- CYC_RD10: a new read; the request is not sent again (42_cycle_reader.md R133). -/
def cycRd10 (s : State) : Host.Outcome State Fault Refusal := busRead reqFallback afterFallbackRead s

/-- SCAN_ADVANCE (43_scan_aggregator.md R163). -/
def scanAdvance (s : State) : State :=
  if s.c = 15#4 then (s.setIndex 0#8).goto .frmHdr else (s.setCycle (s.c + 1#4)).goto .cycCmd

/-- The decode of element `k`: written to buf[MAP(c, k)] when the response holds it whole (42_cycle_reader.md R136). -/
def decodeElement (k : BitVec 2) (s : State) : State :=
  if elementPresent s.rlen k then s.setEntry (mapIndex s.c k) (elementValue s.rbuf k) else s

/-- The decode of elements 0 to 3, in that order (42_cycle_reader.md R136). -/
def decodeElements (s : State) : State :=
  decodeElement 3#2 (decodeElement 2#2 (decodeElement 1#2 (decodeElement 0#2 s)))

/-- CYC_DEC: a response of fewer than 10 bytes abandons the cycle (42_cycle_reader.md R135), any other is decoded (R136);
then the scan advances, in the same step. -/
def cycDec (s : State) : State :=
  if s.rlen.toNat < 10 then scanAdvance (s.setCycleOk s.c false)
  else scanAdvance ((decodeElements s).setCycleOk s.c true)

end Sys2Proof.Machine
end

