-- ==== Sys2Proof/Machine/Dispatch.lean ====
section
/-! DEFINITION. One arm for each encoded instruction. -/

namespace Sys2Proof.Machine

def exec (i : Instr) (s : State) : Host.Outcome State Fault Refusal :=
  match i with
  | .scanLower => Sys2Proof.Machine.execScanLower s
  | .scanUpper => Sys2Proof.Machine.execScanUpper s
  | .discard b => Sys2Proof.Machine.execDiscard b s
  | .readCycle c => Sys2Proof.Machine.execReadCycle c s

end Sys2Proof.Machine
end

