-- ==== Sys2Proof/Machine/Frame.lean ====
section
/-! DEFINITION. The serial frame encoder: one byte a step (44_frame_encoder.md), and the frame and its checksum input as byte
sequences (30_encoding.md R75, R77). -/

namespace Sys2Proof.Machine

/-- The end of a field's step: `last` is the index of the field's last byte, `next` what follows the field. -/
def stepField (last : Byte) (next : SeqState) (s : State) : State :=
  if s.i = last then (s.setIndex 0#8).goto next else s.setIndex (s.i + 1#8)

/-- FRM_HDR (44_frame_encoder.md R180). -/
def frmHdr (s : State) : Host.Outcome State Fault Refusal := txPut (headerByte s.i) (stepField 3#8 .frmLen) s

/-- FRM_LEN (44_frame_encoder.md R181). -/
def frmLen (s : State) : Host.Outcome State Fault Refusal := txPut (lengthByte s.i) (stepField 1#8 .frmSeq) s

/-- What FRM_SEQ does once the byte is out (44_frame_encoder.md R182): latch, advance, seed the CRC with the emitted
value and the two length bytes. -/
def afterSeq (s : State) : State :=
  let t := s.advanceSeq
  ((((t.seedCrc.absorb t.fseq).absorb 0x80#8).absorb 0x00#8).setIndex 0#8).goto .frmPay

/-- FRM_SEQ (44_frame_encoder.md R182). -/
def frmSeq (s : State) : Host.Outcome State Fault Refusal := txPut s.seq afterSeq s

/-- The payload byte the index `i` names, a 7-bit byte counter (44_frame_encoder.md R183, 10_state.md R24; log 12). -/
def currentPayloadByte (s : State) : Byte := payloadByte s.buf (s.i.setWidth 7)

/-- FRM_PAY (44_frame_encoder.md R183). -/
def frmPay (s : State) : Host.Outcome State Fault Refusal :=
  txPut (currentPayloadByte s) (fun t => stepField 127#8 .frmCrc (t.absorb (currentPayloadByte s))) s

/-- The end of an FRM_CRC step: after the second byte, IDLE; `i` is not written then (44_frame_encoder.md R184). -/
def afterCrc (s : State) : State := if s.i = 1#8 then s.goto .idle else s.setIndex (s.i + 1#8)

/-- FRM_CRC (44_frame_encoder.md R184). -/
def frmCrc (s : State) : Host.Outcome State Fault Refusal := txPut (crcTrailerByte s.crc s.i) afterCrc s

/-- CRCIN: the 131 bytes the checksum covers, in its own order (30_encoding.md R77). -/
def crcInput (fseq : Byte) (buf : Vector Word 64) : List Byte := fseq :: lengthField ++ payload buf

/-- FRAME: the 137 bytes of the frame of sequence value `fseq` and buffer `buf`, in offset order (30_encoding.md R75). -/
def frameBytes (fseq : Byte) (buf : Vector Word 64) : List Byte :=
  header ++ lengthField ++ [fseq] ++ payload buf ++ leBytes (crc16 (crcInput fseq buf))

end Sys2Proof.Machine
end

