-- ==== Sys2Proof/Machine/Scan.lean ====
section
/-! DEFINITION. The start of a scan (43_scan_aggregator.md R160). -/

namespace Sys2Proof.Machine

/-- SCAN_INIT: buffer and status cleared, `c <- 0`, one atomic step (43_scan_aggregator.md R160). -/
def scanInit (s : State) : State := (s.clearBuffer.clearCycleOk.setCycle 0#4).goto .cycCmd

end Sys2Proof.Machine
end

