-- ==== Sys2Proof/Machine/Sequencer.lean ====
section
/-! DEFINITION. The sequencer: the operation each state `st` performs (10_state.md R28), and how a word of the opcode table is
placed where the next step runs it. -/

namespace Sys2Proof.Machine

/-- IDLE: take and decode one command byte (45_command_dispatch.md R210). DESIGN CHOICE: with no byte available the step
changes nothing, which is the block waiting in IDLE, its quiescent state (R216; log 7). -/
def idle (s : State) : Host.Outcome State Fault Refusal :=
  match decode .cmd s.env.cmdIn with
  | .ok i rest => exec i (s.leaveOffered rest)
  | .rejected _ => .next s

/-- The operation of the current state, one row of the table of 10_state.md R28. In CYC_CMD the instruction is not fetched:
the block builds the request of cycle `c` (42_cycle_reader.md R131). FAULT has no successor (60_exceptions.md R222). -/
def operation (s : State) : Host.Outcome State Fault Refusal :=
  match s.st with
  | .idle => idle s
  | .scanInit => .next (scanInit s)
  | .cycCmd => exec (.readCycle s.c) s
  | .cycRd22 => cycRd22 s
  | .cycRd10 => cycRd10 s
  | .cycDec => .next (cycDec s)
  | .frmHdr => frmHdr s
  | .frmLen => frmLen s
  | .frmSeq => frmSeq s
  | .frmPay => frmPay s
  | .frmCrc => frmCrc s
  | .fault => .fault .txPortFailure

/-- One step: a reset offered at this boundary wins, and the pending operation is not performed (60_exceptions.md R226);
otherwise the operation of `st`. -/
def advance (s : State) : Host.Outcome State Fault Refusal :=
  if s.resetOffered then .next s.sampleReset.resetEvent else operation s.sampleReset

/-- `s` about to run instruction `i`, no reset offered: a command byte first on the command input of an IDLE block, a bus
request as the cycle index of a block in CYC_CMD (log 11). -/
def State.placeInstr (i : Instr) (s : State) : State :=
  match i with
  | .readCycle c => { s with st := .cycCmd, c := c, env := { s.env with resetIn := [] } }
  | .scanLower => { s with st := .idle, env := { s.env with cmdIn := encode .scanLower ++ s.env.cmdIn, resetIn := [] } }
  | .scanUpper => { s with st := .idle, env := { s.env with cmdIn := encode .scanUpper ++ s.env.cmdIn, resetIn := [] } }
  | .discard b => { s with st := .idle, env := { s.env with cmdIn := encode (.discard b) ++ s.env.cmdIn, resetIn := [] } }

/-- `s` about to run the instruction of an opcode-table word; unchanged where the word is none. -/
def State.placeWord (s : State) (nbits w : Nat) : State :=
  match decodeTableWord nbits w with
  | some i => s.placeInstr i
  | none => s

end Sys2Proof.Machine
end

