-- ==== Sys2Proof/Machine/Step.lean ====
section
/-! DEFINITION. The machine's step and the placing of an opcode-table word. -/

namespace Sys2Proof.Machine

/-- One atomic transition of the sequencer (10_state.md R28, 20_memory.md R57). -/
def step (s : State) : Host.Outcome State Fault Refusal := advance s

/-- `s` with an opcode-table word placed where the next step takes it (log 11). -/
def State.withFetchWord (s : State) (nbits w : Nat) : State := s.placeWord nbits w

end Sys2Proof.Machine
end

