-- ==== Sys2Proof/Safety.lean ====
section
/-! DEFINITION. What claims about runs are stated in terms of: the invariants, the relation under which unspecified values are
unobservable, and the scan as one function of the bus answers (43_scan_aggregator.md R162). -/

namespace Sys2Proof.Machine

/-- `n` steps, stopping at the first stop: the run of `core`, over this model's own types. -/
def runSteps : Nat → State → Host.Outcome State Fault Refusal
  | 0, s => .next s
  | n + 1, s =>
    match step s with
    | .next t => runSteps n t
    | .fault f => .fault f
    | .refused r => .refused r

/-! Environments that do their duty (60_exceptions.md R234). -/

/-- No reset is offered at any coming step boundary. -/
def Env.noReset (e : Env) : Prop := ∀ b ∈ e.resetIn, b = false

/-- Every coming bus transaction completes. -/
def Env.busCompletes (e : Env) : Prop :=
  (∀ a ∈ e.busRd, a ≠ .neverCompletes) ∧ (∀ a ∈ e.busWr, a ≠ .neverCompletes)

/-- Every coming output byte is accepted. -/
def Env.outputAccepted (e : Env) : Prop := ∀ a ∈ e.txPort, a = .accepted

/-- The environment after a step that emitted byte `b`: the byte is in the stream, its answer and this boundary of the reset
input are used up. -/
def Env.afterByte (b : Byte) (e : Env) : Env :=
  { e with txOut := e.txOut ++ [b], txPort := e.txPort.tail, resetIn := e.resetIn.tail }

/-- The environment after a step whose output byte failed: nothing emitted (60_exceptions.md R222). -/
def Env.afterFailure (e : Env) : Env :=
  { e with txPort := e.txPort.tail, resetIn := e.resetIn.tail }

/-- The environment after a step that used no port. -/
def Env.afterBoundary (e : Env) : Env := { e with resetIn := e.resetIn.tail }

/-! The frame in progress. -/

/-- `st` is one of the five states of the frame encoder. -/
def SeqState.inFrame : SeqState → Bool
  | .frmHdr | .frmLen | .frmSeq | .frmPay | .frmCrc => true
  | _ => false

/-- `st` is one of the four states of the cycle reader. -/
def SeqState.inCycle : SeqState → Bool
  | .cycCmd | .cycRd22 | .cycRd10 | .cycDec => true
  | _ => false

/-- How many bytes of its frame the block has emitted, where it is emitting one (30_encoding.md R75). -/
def State.framePosition (s : State) : Option Nat :=
  match s.st with
  | .frmHdr => some s.i.toNat
  | .frmLen => some (4 + s.i.toNat)
  | .frmSeq => some 6
  | .frmPay => some (7 + s.i.toNat)
  | .frmCrc => some (135 + s.i.toNat)
  | _ => none

/-- The sequence value of the frame in progress: `seq` until it is sent, then the latched value (10_state.md R32). -/
def State.frameSeqValue (s : State) : Byte :=
  match s.st with
  | .frmPay | .frmCrc => s.fseq
  | _ => s.seq

/-- The byte index stays in the range its field has (10_state.md R30). -/
def State.indexInRange (s : State) : Prop :=
  (s.st = .frmHdr → s.i.toNat ≤ 3) ∧ (s.st = .frmLen → s.i.toNat ≤ 1) ∧
  (s.st = .frmPay → s.i.toNat ≤ 127) ∧ (s.st = .frmCrc → s.i.toNat ≤ 1)

/-- The frame invariant: the index is in range, what has been emitted of the frame in progress is the beginning of the frame
of its sequence value and the buffer, the CRC register is the checksum of what it has absorbed of CRCIN, and the
counter is one ahead of the latched value (44_frame_encoder.md R180 to R185, R189). -/
structure State.FrameInv (s : State) : Prop where
  index : s.indexInRange
  emitted : ∀ n, s.framePosition = some n →
    ∃ earlier, s.env.txOut = earlier ++ (frameBytes s.frameSeqValue s.buf).take n
  crcPayload : s.st = .frmPay → s.crc = crc16 ((crcInput s.fseq s.buf).take (3 + s.i.toNat))
  crcTrailer : s.st = .frmCrc → s.crc = crc16 (crcInput s.fseq s.buf)
  latched : s.st = .frmPay ∨ s.st = .frmCrc → s.seq = s.fseq + 1#8

/-! The scan in progress. -/

/-- The four entries of cycle `j` are zero. -/
def State.cycleZero (s : State) (j : BitVec 4) : Prop :=
  ∀ k : BitVec 2, s.buf[(mapIndex j k).toNat]'(mapIndex j k).isLt = 0#16

/-- The scan invariant: while a scan runs, cycles that have not been decoded have zero entries and status 0
(10_state.md R33, 70_reset_and_hazards.md R248); a cycle whose status says abandoned has zero entries, during the scan
and its frame (42_cycle_reader.md R135, 90_conflicts.md C2); and under RESP_COUNT_MODE bounded the response kept is the full
one or one of at most 10 bytes (42_cycle_reader.md R138). -/
structure State.ScanInv (s : State) : Prop where
  pendingZero : s.st.inCycle → ∀ j : BitVec 4, s.c ≤ j → s.cycleZero j
  pendingStatus : s.st.inCycle → s.params.hasCycleStatus → ∀ j : BitVec 4, s.c ≤ j → s.cycleOk.getLsbD j.toNat = false
  abandonedZero : (s.st.inCycle ∨ s.st.inFrame) → s.params.hasCycleStatus →
    ∀ j : BitVec 4, s.cycleOk.getLsbD j.toNat = false → s.cycleZero j
  keptLength : s.st = .cycDec → s.params.respCountMode = .bounded → s.rlen = 22#8 ∨ s.rlen.toNat ≤ 10

/-! What an unspecified value cannot change. -/

/-- Two states that differ only in elements no rule reads before writing them (10_state.md R26, R27, R29 to R32): the
environment, `st`, `seq`, `cycle_ok` and the parameters are the same, and of the others those that are still to be read. -/
structure State.Agree (s t : State) : Prop where
  params : s.params = t.params
  st : s.st = t.st
  seq : s.seq = t.seq
  cycleOk : s.cycleOk = t.cycleOk
  env : s.env = t.env
  buf : s.st.inCycle ∨ s.st.inFrame → s.buf = t.buf
  c : s.st.inCycle → s.c = t.c
  i : s.st = .frmHdr ∨ s.st = .frmLen ∨ s.st = .frmPay ∨ s.st = .frmCrc → s.i = t.i
  rlen : s.st = .cycDec → s.rlen = t.rlen
  rbuf : s.st = .cycDec → ∀ j : Fin 22, j.val < s.rlen.toNat → s.rbuf[j] = t.rbuf[j]
  crc : s.st = .frmPay ∨ s.st = .frmCrc → s.crc = t.crc

/-- Two outcomes are the same stop, or next states that agree. -/
def outcomesAgree : Host.Outcome State Fault Refusal → Host.Outcome State Fault Refusal → Prop
  | .next s, .next t => s.Agree t
  | .fault a, .fault b => a = b
  | .refused a, .refused b => a = b
  | _, _ => False

/-! The scan as a function of the bus answers. -/

/-- The bytes the next read of `n` bytes delivers from a list of answers (42_cycle_reader.md R134; 30_encoding.md R79). -/
def nextBytes (mode : RespCountMode) (n : Nat) (answers : List ReadAnswer) : List Byte :=
  match answers.headD (.returns []) with
  | .returns listed => delivered mode n listed
  | .neverCompletes => []

/-- Whether a cycle's first read returns exactly 22 bytes (42_cycle_reader.md R132). -/
def fullResponse (mode : RespCountMode) (answers : List ReadAnswer) : Bool := (nextBytes mode 22 answers).length == 22

/-- The one response a cycle decodes (42_cycle_reader.md R130). -/
def cycleResponse (mode : RespCountMode) (answers : List ReadAnswer) : List Byte :=
  if fullResponse mode answers then nextBytes mode 22 answers else nextBytes mode 10 answers.tail

/-- The answers a cycle leaves for the next. -/
def answersAfterCycle (mode : RespCountMode) (answers : List ReadAnswer) : List ReadAnswer :=
  if fullResponse mode answers then answers.tail else answers.tail.tail

/-- The answers left when cycle `j` of a scan begins. -/
def answersBefore (mode : RespCountMode) : Nat → List ReadAnswer → List ReadAnswer
  | 0, answers => answers
  | j + 1, answers => answersBefore mode j (answersAfterCycle mode answers)

/-- The response that cycle `j` of a scan decodes. -/
def scanResponse (mode : RespCountMode) (answers : List ReadAnswer) (j : Nat) : List Byte :=
  cycleResponse mode (answersBefore mode j answers)

/-- The reading of sub-slot `k` of a response: its two value bytes, low first, where the element is whole, and 0 where it
is not (42_cycle_reader.md R136, 43_scan_aggregator.md R162). -/
def responseReading (response : List Byte) (k : BitVec 2) : Word :=
  if 6 + 4 * k.toNat + 3 < response.length then
    BitVec.ofNat 16 ((response.getD (8 + 4 * k.toNat) 0#8).toNat + 256 * (response.getD (9 + 4 * k.toNat) 0#8).toNat)
  else 0#16

/-- The bus transactions of one cycle, in order (20_memory.md R61). -/
def cycleEvents (p : Params) (answers : List ReadAnswer) (c : BitVec 4) : List BusEvent :=
  [.write p.busAddr [0x01#8, 0x00#8, c.setWidth 8] true,
   .read p.busAddr 22 (nextBytes p.respCountMode 22 answers).length] ++
  (if fullResponse p.respCountMode answers then []
   else [.read p.busAddr 10 (nextBytes p.respCountMode 10 answers.tail).length])

/-- The bus transactions of the cycles 0 to 15 of a scan, in ascending order (20_memory.md R61). -/
def scanEvents (p : Params) (answers : List ReadAnswer) : List BusEvent :=
  (List.range 16).flatMap fun j => cycleEvents p (answersBefore p.respCountMode j answers) (BitVec.ofNat 4 j)

/-- `buf` holds what a scan over these answers leaves: entry MAP(c, k) is the reading of sub-slot k of cycle c's response. -/
def holdsScan (p : Params) (answers : List ReadAnswer) (buf : Vector Word 64) : Prop :=
  ∀ (c : BitVec 4) (k : BitVec 2),
    buf[(mapIndex c k).toNat]'(mapIndex c k).isLt = responseReading (scanResponse p.respCountMode answers c.toNat) k

/-- `cycle_ok` of a scan over these answers: bit c says that cycle c's response had at least 10 bytes (10_state.md R33). -/
def holdsStatus (p : Params) (answers : List ReadAnswer) (cycleOk : BitVec 16) : Prop :=
  ∀ c : BitVec 4, cycleOk.getLsbD c.toNat = decide (10 ≤ (scanResponse p.respCountMode answers c.toNat).length)

end Sys2Proof.Machine
end

