-- ==== Sys2Proof/Certificates/Slice0/Obligations.lean ====
section
/-! DEFINITION. The statements about the model, each from the rules of spec/ its docstring names. A statement about a step says
under which environment answers it holds; no statement rests on a free value or on the reset value of an element the spec
leaves unspecified. -/

open Sys2Proof Sys2Proof.Machine

/-! Encoding and the step's use of it. -/

/-- Words of the opcode table, written out, and what they decode to; neighbours of each are not taken for it. The five 8-bit
clauses are 30_encoding.md R71 (95_test_vectors.md CMD-1, CMD-2, CMD-3, CMD-5, CMD-6). The five 24-bit clauses are the model's
DEDUCED reading (log 11): the byte order of the number is the word_convention of the row BUSREQ.READ_CYCLE of
spec/opcode_table.json, and the decoder of bus requests is the model's own, over the layout of 30_encoding.md R72, since the
block decodes none (R80). -/
def Obligations.TableWordsDecode : Prop :=
  decodeTableWord 8 0x72 = some .scanLower ∧ decodeTableWord 8 0x52 = some .scanUpper ∧
  decodeTableWord 8 0x78 = some (.discard 0x78#8) ∧ decodeTableWord 8 0xF2 = some (.discard 0xF2#8) ∧
  decodeTableWord 8 0xD2 = some (.discard 0xD2#8) ∧ decodeTableWord 24 0x010000 = some (.readCycle 0#4) ∧
  decodeTableWord 24 0x01000F = some (.readCycle 15#4) ∧ decodeTableWord 24 0x010010 = none ∧
  decodeTableWord 24 0x010100 = none ∧ decodeTableWord 24 0x020000 = none

/-- 30_encoding.md R71, R78: each of the 256 command bytes decodes, to the instruction of its row, and one byte is used. -/
def Obligations.EveryCommandByteDecodes : Prop :=
  ∀ (b : Byte) (rest : List Byte),
    decode .cmd (b :: rest) =
      .ok (if b = 0x72#8 then .scanLower else if b = 0x52#8 then .scanUpper else .discard b) rest

/-- 30_encoding.md R70 to R72: decoding the encoding of any well-formed instruction gives it back, with whatever bytes
follow left over. For the bus request the decoder is the model's own (R80; log 11, DEDUCED). -/
def Obligations.DecodeOfEncode : Prop :=
  ∀ (i : Instr) (rest : List Byte), i.wf = true → decode i.format (encode i ++ rest) = .ok i rest

/-- 30_encoding.md R70 to R72: whatever bytes decode are the encoding of the well-formed instruction they decode to, of
that format, followed by what is left over. For the bus request the decoder is the model's own (R80; log 11, DEDUCED). -/
def Obligations.EncodeOfDecode : Prop :=
  ∀ (f : Format) (bytes rest : List Byte) (i : Instr), decode f bytes = .ok i rest →
    i.wf = true ∧ i.format = f ∧ encode i ++ rest = bytes

/-- 45_command_dispatch.md R210: in IDLE the step takes one byte, decodes it, and is exec of that instruction on the state
with the byte taken. -/
def Obligations.StepRunsTheTakenCommand : Prop :=
  ∀ (s : State) (i : Instr) (rest : List Byte), s.resetOffered = false → s.st = .idle →
    decode .cmd s.env.cmdIn = .ok i rest →
    step s = exec i { s with env := { s.env with cmdIn := rest, resetIn := s.env.resetIn.tail } }

/-- 42_cycle_reader.md R131: in CYC_CMD the step is exec of the request of the current cycle. -/
def Obligations.StepRunsTheBuiltRequest : Prop :=
  ∀ s : State, s.resetOffered = false → s.st = .cycCmd →
    step s = exec (.readCycle s.c) { s with env := s.env.afterBoundary }

/-! The encoded instructions: result, frame and completion. -/

/-- 45_command_dispatch.md R211, R212: either trigger answers a next state, in which `st` is SCAN_INIT and nothing else has
changed. -/
def Obligations.TriggersStartAScan : Prop :=
  ∀ s : State, exec .scanLower s = .next { s with st := .scanInit } ∧ exec .scanUpper s = .next { s with st := .scanInit }

/-- 45_command_dispatch.md R213: a discarded byte, whichever it is, leaves `st` in IDLE and changes nothing else; at the
step, from IDLE, nothing changes but that the byte has been consumed. -/
def Obligations.DiscardConsumesTheByteOnly : Prop :=
  (∀ (b : Byte) (s : State), exec (.discard b) s = .next { s with st := .idle }) ∧
  (∀ (s : State) (b : Byte) (rest : List Byte), s.resetOffered = false → s.st = .idle → s.env.cmdIn = b :: rest →
    b ≠ 0x72#8 → b ≠ 0x52#8 →
    step s = .next { s with env := { s.env with cmdIn := rest, resetIn := s.env.resetIn.tail } })

/-- 42_cycle_reader.md R131: where the bus completes the write, acknowledged or not, the request of cycle `c` answers a next
state: the three bytes are written to BUS_ADDR with the bus held, `st` is CYC_RD22, and nothing else has changed. -/
def Obligations.RequestIsOneHeldBusWrite : Prop :=
  ∀ (c : BitVec 4) (s : State) (acknowledged : Bool), s.writeAnswer = .completes acknowledged →
    exec (.readCycle c) s = .next
      { s with
        st := .cycRd22
        env := { s.env with
          busWr := s.env.busWr.tail
          busLog := s.env.busLog ++ [.write s.params.busAddr [0x01#8, 0x00#8, c.setWidth 8] true] } }

/-! The CRC engine. -/

/-- 40_crc16.md R100, R103: absorbing a byte is eight bit-serial steps, the byte's most significant bit first: each step
shifts the register and adds the polynomial exactly when the bit shifted out differs from the message bit. -/
def Obligations.CrcByteIsBitSerialMsbFirst : Prop :=
  ∀ (crc : Word) (b : Byte),
    crcByte crc b =
      [7, 6, 5, 4, 3, 2, 1, 0].foldl
        (fun (r : Word) (n : Nat) => if r.getLsbD 15 != b.getLsbD n then (r <<< 1) ^^^ 0x1021#16 else r <<< 1) crc

/-- 40_crc16.md R102: one bit iteration; the top bit is tested before the shift. -/
def Obligations.CrcShiftTestsTheTopBit : Prop :=
  ∀ crc : Word,
    (crc.getLsbD 15 = true → crcShift1 crc = (crc <<< 1) ^^^ 0x1021#16) ∧
    (crc.getLsbD 15 = false → crcShift1 crc = crc <<< 1)

/-- 95_test_vectors.md CRC-5 to CRC-9, CRC-15: check values of the engine. -/
def Obligations.CrcCheckValues : Prop :=
  crc16 [0x31#8, 0x32#8, 0x33#8, 0x34#8, 0x35#8, 0x36#8, 0x37#8, 0x38#8, 0x39#8] = 0x29B1#16 ∧ crc16 [] = 0xFFFF#16 ∧
  crc16 [0x00#8] = 0xE1F0#16 ∧ crc16 [0xFF#8] = 0xFF00#16 ∧ crc16 [0x01#8] = 0xF1D1#16 ∧
  crcByte 0x1234#16 0x56#8 = 0x3C40#16

/-- 40_crc16.md R106: two sequences of equal length that differ in exactly one byte have different checksums; for every
length, so for the 131 bytes of CRCIN. -/
def Obligations.SingleByteErrorsAreDetected : Prop :=
  ∀ (before after : List Byte) (b b' : Byte), b ≠ b' →
    crc16 (before ++ b :: after) ≠ crc16 (before ++ b' :: after)

/-! The index mapper and the byte orders. -/

/-- 41_index_map.md R120: the formula over numbers, and its bit form. -/
def Obligations.MapFormulaAndBitForm : Prop :=
  ∀ (c : BitVec 4) (k : BitVec 2),
    (mapIndex c k).toNat = 8 * (c.toNat / 2) + 2 * k.toNat + c.toNat % 2 ∧
    mapIndex c k = c.extractLsb' 1 3 ++ k ++ c.extractLsb' 0 1

/-- 41_index_map.md R121, R122: MAP takes each index exactly once, and MAP_INV names the pair. -/
def Obligations.MapIsABijection : Prop :=
  (∀ (c : BitVec 4) (k : BitVec 2), mapInverse (mapIndex c k) = (c, k)) ∧
  (∀ e : BitVec 6, mapIndex (mapInverse e).1 (mapInverse e).2 = e) ∧
  (∀ e : BitVec 6, (mapInverse e).1 = e.extractLsb' 3 3 ++ e.extractLsb' 0 1 ∧ (mapInverse e).2 = e.extractLsb' 1 2)

/-- 20_memory.md R53, 30_encoding.md R74: the value of element k is its two value bytes, low byte first, and the bound of
the decode is the same as a returned length of at least 10 + 4k. -/
def Obligations.ElementValueAndBound : Prop :=
  ∀ (rbuf : Vector Byte 22) (rlen : Byte) (k : BitVec 2),
    (elementValue rbuf k).toNat =
      (rbuf.toList.getD (8 + 4 * k.toNat) 0#8).toNat + 256 * (rbuf.toList.getD (9 + 4 * k.toNat) 0#8).toNat ∧
    (elementPresent rlen k = true ↔ 10 + 4 * k.toNat ≤ rlen.toNat)

/-- 20_memory.md R54: the payload is 128 bytes, entry e at bytes 2e (low) and 2e + 1 (high). -/
def Obligations.PayloadIsLittleEndianInElectrodeOrder : Prop :=
  ∀ buf : Vector Word 64, (payload buf).length = 128 ∧
    ∀ (e : Nat) (h : e < 64), (payload buf)[2 * e]? = some ((buf[e]).setWidth 8) ∧
      (payload buf)[2 * e + 1]? = some ((buf[e] >>> 8).setWidth 8)

/-- 30_encoding.md R75 to R77: the layout of the frame, offset by offset, reading by reading, and the input of its
checksum. -/
def Obligations.FrameLayout : Prop :=
  ∀ (fseq : Byte) (buf : Vector Word 64),
    (frameBytes fseq buf).length = 137 ∧
    (frameBytes fseq buf).take 7 = [0x43#8, 0x41#8, 0x36#8, 0x34#8, 0x80#8, 0x00#8, fseq] ∧
    (∀ (e : Nat) (h : e < 64), (frameBytes fseq buf)[7 + 2 * e]? = some ((buf[e]).setWidth 8) ∧
      (frameBytes fseq buf)[8 + 2 * e]? = some ((buf[e] >>> 8).setWidth 8)) ∧
    (frameBytes fseq buf).drop 135 =
      [(crc16 ([fseq, 0x80#8, 0x00#8] ++ payload buf)).setWidth 8,
       (crc16 ([fseq, 0x80#8, 0x00#8] ++ payload buf) >>> 8).setWidth 8]

/-! The sequencer's operations: result and frame of each, at the step. -/

/-- 43_scan_aggregator.md R160: SCAN_INIT clears the 64 entries and the status (where it exists), sets `c` to 0 and goes to
CYC_CMD; nothing else changes. -/
def Obligations.ScanInitClears : Prop :=
  ∀ s : State, s.resetOffered = false → s.st = .scanInit →
    step s = .next
      { s with
        st := .cycCmd
        buf := Vector.replicate 64 0#16
        cycleOk := if s.params.hasCycleStatus then 0#16 else s.cycleOk
        c := 0#4
        env := s.env.afterBoundary }

/-- 42_cycle_reader.md R132: a first read of exactly 22 bytes is kept whole and goes to CYC_DEC; any other count of the range
of R134 keeps nothing and goes to CYC_RD10. -/
def Obligations.FullReadKeepsExactly22Bytes : Prop :=
  ∀ (s : State) (bytes : List Byte), s.resetOffered = false → s.st = .cycRd22 → s.readAnswer = .returns bytes →
    bytes.length ≤ (if s.params.respCountMode = .bounded then 22 else 255) →
    let env := { s.env with
      busRd := s.env.busRd.tail
      busLog := s.env.busLog ++ [.read s.params.busAddr 22 bytes.length]
      resetIn := s.env.resetIn.tail }
    (bytes.length = 22 → ∃ kept : Vector Byte 22, kept.toList = bytes ∧
      step s = .next { s with st := .cycDec, rlen := 22#8, rbuf := kept, env := env }) ∧
    (bytes.length ≠ 22 → step s = .next { s with st := .cycRd10, env := env })

/-- 42_cycle_reader.md R133: the fallback read, of any count of the range of R134, keeps the count and the bytes returned, up to
the 22nd, and goes to CYC_DEC. The request is not sent again: the one bus event is the read. The free-value index `draws`
is the model's own (log 6) and nothing is said of it. -/
def Obligations.FallbackReadKeepsWhatCame : Prop :=
  ∀ (s : State) (bytes : List Byte), s.resetOffered = false → s.st = .cycRd10 → s.readAnswer = .returns bytes →
    bytes.length ≤ (if s.params.respCountMode = .bounded then 10 else 255) →
    ∃ (kept : Vector Byte 22) (draws : Nat), kept.toList.take bytes.length = bytes.take 22 ∧
      step s = .next
        { s with
          st := .cycDec
          rlen := BitVec.ofNat 8 bytes.length
          rbuf := kept
          draws := draws
          env := { s.env with
            busRd := s.env.busRd.tail
            busLog := s.env.busLog ++ [.read s.params.busAddr 10 bytes.length]
            resetIn := s.env.resetIn.tail } }

/-- 42_cycle_reader.md R134: the counts a read of n bytes delivers are those of the range, 0..n or 0..255, and every answer
within it is delivered as it stands. DESIGN CHOICE of the model (log 2): what is listed beyond the range is not delivered. -/
def Obligations.AnswersCoverTheSpecRange : Prop :=
  ∀ (n : Nat) (bytes : List Byte),
    (delivered .bounded n bytes).length ≤ n ∧ (delivered .any n bytes).length ≤ 255 ∧
    (bytes.length ≤ n → delivered .bounded n bytes = bytes) ∧
    (bytes.length ≤ 255 → delivered .any n bytes = bytes)

/-- 42_cycle_reader.md R135, 43_scan_aggregator.md R163: a kept length below 10 abandons the cycle: its status bit (where it
exists) is cleared and no other, no entry is written, and the scan advances: to the frame after cycle 15, else to the
next cycle. -/
def Obligations.ShortResponseAbandonsTheCycle : Prop :=
  ∀ s : State, s.resetOffered = false → s.st = .cycDec → s.rlen.toNat < 10 →
    ∃ cycleOk : BitVec 16,
      (s.params.hasCycleStatus = true →
        ∀ j : BitVec 4, cycleOk.getLsbD j.toNat = if j = s.c then false else s.cycleOk.getLsbD j.toNat) ∧
      (s.params.hasCycleStatus = false → cycleOk = s.cycleOk) ∧
      step s = .next
        { s with
          st := if s.c = 15#4 then .frmHdr else .cycCmd
          c := if s.c = 15#4 then s.c else s.c + 1#4
          i := if s.c = 15#4 then 0#8 else s.i
          cycleOk := cycleOk
          env := s.env.afterBoundary }

/-- 42_cycle_reader.md R136, 43_scan_aggregator.md R163: a kept length of at least 10 writes, for each element that lies
whole within it, the little-endian value to entry MAP(c, k), and no other entry; the cycle's status bit (where it exists)
is set and no other changes; the scan advances. -/
def Obligations.DecodeWritesTheElementsPresent : Prop :=
  ∀ s : State, s.resetOffered = false → s.st = .cycDec → 10 ≤ s.rlen.toNat →
    ∃ (buf : Vector Word 64) (cycleOk : BitVec 16),
      (∀ k : BitVec 2, buf.toList[(mapIndex s.c k).toNat]? =
        if 6 + 4 * k.toNat + 3 < s.rlen.toNat then
          some (BitVec.ofNat 16 ((s.rbuf.toList.getD (8 + 4 * k.toNat) 0#8).toNat +
            256 * (s.rbuf.toList.getD (9 + 4 * k.toNat) 0#8).toNat))
        else s.buf.toList[(mapIndex s.c k).toNat]?) ∧
      (∀ e : Nat, (∀ k : BitVec 2, (mapIndex s.c k).toNat ≠ e) → buf.toList[e]? = s.buf.toList[e]?) ∧
      (s.params.hasCycleStatus = true →
        ∀ j : BitVec 4, cycleOk.getLsbD j.toNat = if j = s.c then true else s.cycleOk.getLsbD j.toNat) ∧
      (s.params.hasCycleStatus = false → cycleOk = s.cycleOk) ∧
      step s = .next
        { s with
          st := if s.c = 15#4 then .frmHdr else .cycCmd
          c := if s.c = 15#4 then s.c else s.c + 1#4
          i := if s.c = 15#4 then 0#8 else s.i
          buf := buf
          cycleOk := cycleOk
          env := s.env.afterBoundary }

/-- 44_frame_encoder.md R180: FRM_HDR, its byte accepted, emits byte `i` of "CA64" and moves on, after byte 3 to FRM_LEN with
`i` at 0. Nothing else changes; in particular the CRC register takes in nothing. -/
def Obligations.HeaderStepEmitsItsByte : Prop :=
  ∀ s : State, s.resetOffered = false → s.st = .frmHdr → s.i.toNat ≤ 3 → s.txAnswer = .accepted →
    step s = .next
      { s with
        st := if s.i = 3#8 then .frmLen else .frmHdr
        i := if s.i = 3#8 then 0#8 else s.i + 1#8
        env := s.env.afterByte ([0x43#8, 0x41#8, 0x36#8, 0x34#8].getD s.i.toNat 0#8) }

/-- 44_frame_encoder.md R181: FRM_LEN, its byte accepted, emits byte `i` of the length 128, low byte first, and moves on, after
byte 1 to FRM_SEQ with `i` at 0. Nothing else changes. -/
def Obligations.LengthStepEmitsItsByte : Prop :=
  ∀ s : State, s.resetOffered = false → s.st = .frmLen → s.i.toNat ≤ 1 → s.txAnswer = .accepted →
    step s = .next
      { s with
        st := if s.i = 1#8 then .frmSeq else .frmLen
        i := if s.i = 1#8 then 0#8 else s.i + 1#8
        env := s.env.afterByte ([0x80#8, 0x00#8].getD s.i.toNat 0#8) }

/-- 44_frame_encoder.md R182: FRM_SEQ, its byte accepted, emits `seq`, latches it, advances the counter (mod 256), seeds the CRC
with the emitted value and the two length bytes, and goes to FRM_PAY with `i` at 0. Nothing else changes. -/
def Obligations.SequenceStepEmitsAndAdvances : Prop :=
  ∀ s : State, s.resetOffered = false → s.st = .frmSeq → s.txAnswer = .accepted →
    step s = .next
      { s with
        st := .frmPay
        seq := s.seq + 1#8
        fseq := s.seq
        crc := crc16 [s.seq, 0x80#8, 0x00#8]
        i := 0#8
        env := s.env.afterByte s.seq }

/-- 44_frame_encoder.md R183: FRM_PAY, its byte accepted, emits payload byte `i`, the low byte of entry i >> 1 where i is even and
its high byte where i is odd, absorbs it into the CRC and moves on, after byte 127 to FRM_CRC with `i` at 0. Nothing else
changes. -/
def Obligations.PayloadStepEmitsItsByte : Prop :=
  ∀ s : State, s.resetOffered = false → s.st = .frmPay → s.i.toNat ≤ 127 → s.txAnswer = .accepted →
    ∃ v : Word, s.buf.toList[s.i.toNat / 2]? = some v ∧
      let b : Byte := if s.i.toNat % 2 = 0 then v.setWidth 8 else (v >>> 8).setWidth 8
      step s = .next
        { s with
          st := if s.i = 127#8 then .frmCrc else .frmPay
          i := if s.i = 127#8 then 0#8 else s.i + 1#8
          crc := crcByte s.crc b
          env := s.env.afterByte b }

/-- 44_frame_encoder.md R184: FRM_CRC, its byte accepted, emits the low byte of the CRC at `i` = 0 and goes on to the high byte,
which ends the frame in IDLE; the CRC is not changed. Nothing else changes. -/
def Obligations.CrcStepEmitsItsByte : Prop :=
  ∀ s : State, s.resetOffered = false → s.st = .frmCrc → s.txAnswer = .accepted →
    (s.i = 0#8 → step s = .next { s with i := 1#8, env := s.env.afterByte (s.crc.setWidth 8) }) ∧
    (s.i = 1#8 → step s = .next { s with st := .idle, env := s.env.afterByte ((s.crc >>> 8).setWidth 8) })

/-- 45_command_dispatch.md R216: IDLE with no byte available and no reset ahead is final. DESIGN CHOICE of the model (log 7):
final is a step that changes nothing, however many are run. -/
def Obligations.QuiescentIsFinal : Prop :=
  ∀ (s : State) (n : Nat), s.st = .idle → s.env.cmdIn = [] → s.env.resetIn = [] → runSteps n s = .next s

/-! Faults, stalls and reset. -/

/-- 60_exceptions.md R222: where the put of any frame state fails, `st` becomes FAULT and the bytes emitted stay emitted; from
FAULT there is no next state unless a reset is offered, and a reset leads to IDLE. -/
def Obligations.OutputFailureIsTerminal : Prop :=
  (∀ s : State, s.resetOffered = false → s.st.inFrame = true → s.txAnswer = .failed →
    ∃ (t : State) (more : List Byte), step s = .next t ∧ t.st = .fault ∧ t.env.txOut = s.env.txOut ++ more) ∧
  (∀ s t : State, s.st = .fault → s.resetOffered = false → step s ≠ .next t) ∧
  (∀ s : State, s.st = .fault → s.resetOffered = true → ∃ t, step s = .next t ∧ t.st = .idle)

/-- The frame of a failed put. DEDUCED reading of the model (log 9): the byte that failed is not emitted, and nothing of the
block but `st` changes; in particular FRM_SEQ has not advanced the counter. -/
def Obligations.FailedPutChangesOnlySt : Prop :=
  ∀ s : State, s.resetOffered = false → s.st.inFrame = true → s.txAnswer = .failed →
    step s = .next { s with st := .fault, env := s.env.afterFailure }

/-- 60_exceptions.md R223, R224: a bus transaction that never completes, and an output byte never accepted, leave the block
stuck: there is no next state unless a reset is offered. -/
def Obligations.StalledPortsStopTheBlock : Prop :=
  (∀ s t : State, s.resetOffered = false → s.st = .cycCmd → s.writeAnswer = .neverCompletes → step s ≠ .next t) ∧
  (∀ s t : State, s.resetOffered = false → s.st = .cycRd22 ∨ s.st = .cycRd10 → s.readAnswer = .neverCompletes →
    step s ≠ .next t) ∧
  (∀ s t : State, s.resetOffered = false → s.st.inFrame = true → s.txAnswer = .neverAccepted → step s ≠ .next t)

/-- 60_exceptions.md R220 to R224: a step stops exactly where no reset is offered and the block is in FAULT or waits on a port that
never completes, each under the name the model gives it (log 8, log 9); no step is refused. -/
def Obligations.EveryStopIsOneOfThree : Prop :=
  (∀ (s : State) (f : Fault), step s = .fault f ↔ s.resetOffered = false ∧
    ((f = .txPortFailure ∧ s.st = .fault) ∨
     (f = .busStall ∧ ((s.st = .cycCmd ∧ s.writeAnswer = .neverCompletes) ∨
       ((s.st = .cycRd22 ∨ s.st = .cycRd10) ∧ s.readAnswer = .neverCompletes))) ∨
     (f = .outputStall ∧ s.st.inFrame = true ∧ s.txAnswer = .neverAccepted))) ∧
  (∀ (s : State) (r : Refusal), step s ≠ .refused r)

/-- 70_reset_and_hazards.md R240: a reset from any state writes `st`, `seq` and (where it exists) `cycle_ok`; the elements it
leaves unspecified may hold anything; `busy` is 0; and the environment is untouched but for the reset input's own
boundary: bytes waiting on the command input stay there, whatever else was offered is not performed. -/
def Obligations.ResetFromAnyState : Prop :=
  ∀ s : State, s.resetOffered = true →
    ∃ (buf : Vector Word 64) (crc : Word) (c : BitVec 4) (i rlen : Byte) (rbuf : Vector Byte 22) (fseq : Byte) (draws : Nat)
      (t : State),
      step s = .next t ∧ t.busy = false ∧
      t = { s with
        st := .idle
        seq := 0#8
        cycleOk := if s.params.hasCycleStatus then 0#16 else s.cycleOk
        buf := buf, crc := crc, c := c, i := i, rlen := rlen, rbuf := rbuf, fseq := fseq, draws := draws
        env := s.env.afterBoundary }

/-- 10_state.md R23, R28, R33, R34: what the reset state holds of what the spec gives. -/
def Obligations.ResetStateHoldsTheStatedValues : Prop :=
  State.reset.st = .idle ∧ State.reset.seq = 0#8 ∧ State.reset.cycleOk = 0#16 ∧ State.reset.busy = false

/-- 10_state.md R34: `busy` is 1 when `st` is not IDLE and 0 when it is; after a reset event, and in the reset state, it is 0. -/
def Obligations.BusyIsNotIdle : Prop :=
  (∀ s : State, (s.st ≠ .idle → s.busy = true) ∧ (s.st = .idle → s.busy = false)) ∧
  (∀ s t : State, s.resetOffered = true → step s = .next t → t.busy = false) ∧ State.reset.busy = false

/-! What no step does: rules about the whole machine. -/

/-- 44_frame_encoder.md R188: the counter advances by one in each FRM_SEQ step whose byte was accepted, is 0 after a reset, and
changes at no other time. -/
def Obligations.CounterAdvancesOnlyInFrmSeq : Prop :=
  ∀ s t : State, step s = .next t →
    t.seq = if s.resetOffered = true then 0#8
      else if s.st = .frmSeq ∧ s.txAnswer = .accepted then s.seq + 1#8 else s.seq

/-- 42_cycle_reader.md R137: outside a reset, no step but SCAN_INIT and CYC_DEC writes the buffer, CYC_DEC of cycle c writes
only entries MAP(c, 0..3), and of these it leaves those of elements not whole in the kept response. -/
def Obligations.BufferIsWrittenByTwoStepsOnly : Prop :=
  ∀ s t : State, s.resetOffered = false → step s = .next t →
    (s.st ≠ .scanInit → s.st ≠ .cycDec → t.buf = s.buf) ∧
    (s.st = .cycDec → ∀ e : Nat,
      (∀ k : BitVec 2, (mapIndex s.c k).toNat = e → s.rlen.toNat < 10 + 4 * k.toNat) →
        t.buf.toList[e]? = s.buf.toList[e]?)

/-- 70_reset_and_hazards.md R251: the command input is read in IDLE only. That one byte is taken a step is
45_command_dispatch.md R210. That a step at which a reset is offered takes none is 60_exceptions.md R226 and
70_reset_and_hazards.md R240 as the model samples the reset input (log 10, DESIGN CHOICE), and rests on the spec's own choice
D23 of 92_eei_decisions.md (log 14, DEDUCED, unsafe): hardware that consumes a byte at the instant of a reset would not meet
this clause, and the spec warns against relying on the fate of such a byte (93_implementation_defined.md U19). -/
def Obligations.CommandInputIsReadInIdleOnly : Prop :=
  ∀ s t : State, step s = .next t →
    t.env.cmdIn = if s.st = .idle ∧ s.resetOffered = false then s.env.cmdIn.tail else s.env.cmdIn

/-- 10_state.md R28, 20_memory.md R60: a step performs at most one port event, what has been emitted and issued stays, and each
kind of event belongs to its own states. -/
def Obligations.AtMostOnePortEventAStep : Prop :=
  ∀ s t : State, step s = .next t →
    ∃ (taken out : List Byte) (issued : List BusEvent),
      s.env.cmdIn = taken ++ t.env.cmdIn ∧ t.env.txOut = s.env.txOut ++ out ∧ t.env.busLog = s.env.busLog ++ issued ∧
      taken.length + out.length + issued.length ≤ 1 ∧
      (taken ≠ [] → s.st = .idle) ∧ (out ≠ [] → s.st.inFrame = true) ∧
      (issued ≠ [] → s.st = .cycCmd ∨ s.st = .cycRd22 ∨ s.st = .cycRd10)

/-- 10_state.md R36: the parameters are fixed; no step writes one. -/
def Obligations.ParametersAreFixed : Prop :=
  ∀ s t : State, step s = .next t → t.params = s.params

/-- 42_cycle_reader.md R140: the steps of the cycle reader leave `seq`, `fseq` and `crc`, and emit nothing; 44_frame_encoder.md
R192: the steps of the frame encoder write only `seq`, `fseq`, `crc`, `i` and `st` of the block. -/
def Obligations.ReaderAndEncoderKeepApart : Prop :=
  ∀ s t : State, s.resetOffered = false → step s = .next t →
    (s.st.inCycle = true → t.seq = s.seq ∧ t.fseq = s.fseq ∧ t.crc = s.crc ∧ t.env.txOut = s.env.txOut ∧
      t.env.cmdIn = s.env.cmdIn) ∧
    (s.st.inFrame = true → t.params = s.params ∧ t.buf = s.buf ∧ t.c = s.c ∧ t.rlen = s.rlen ∧ t.rbuf = s.rbuf ∧
      t.cycleOk = s.cycleOk ∧ t.draws = s.draws ∧ t.env.busLog = s.env.busLog ∧ t.env.cmdIn = s.env.cmdIn)

/-! Invariants of every step. -/

/-- 44_frame_encoder.md R180 to R185, R189; 10_state.md R30: every step keeps the frame invariant: what has been emitted of the
frame in progress is the beginning of the frame of its sequence value and the buffer, and the CRC register is the checksum
of what it has absorbed. -/
def Obligations.EveryStepKeepsTheFrameInvariant : Prop :=
  ∀ s t : State, s.FrameInv → step s = .next t → t.FrameInv

/-- The frame invariant holds after reset. -/
def Obligations.ResetMeetsTheFrameInvariant : Prop := State.reset.FrameInv

/-- 44_frame_encoder.md R185, R189: with the frame invariant, the step that ends a frame leaves all 137 bytes of it at the end of
the emitted stream. -/
def Obligations.TheLastByteCompletesTheFrame : Prop :=
  ∀ s t : State, s.FrameInv → s.resetOffered = false → s.st = .frmCrc → step s = .next t → t.st = .idle →
    ∃ earlier : List Byte, t.env.txOut = earlier ++ frameBytes s.fseq s.buf

/-- 10_state.md R25, R33; 42_cycle_reader.md R135, R138; 70_reset_and_hazards.md R248: every step keeps the scan invariant:
entries not yet decoded, and entries of cycles whose status says abandoned, are zero; and under `bounded` the kept length is
22 or at most 10. -/
def Obligations.EveryStepKeepsTheScanInvariant : Prop :=
  ∀ s t : State, s.ScanInv → step s = .next t → t.ScanInv

/-- The scan invariant holds after reset. -/
def Obligations.ResetMeetsTheScanInvariant : Prop := State.reset.ScanInv

/-- 10_state.md R26, R27, R29 to R32; 92_eei_decisions.md D13: what the spec leaves unspecified is unobservable: two states that
agree but for elements not to be read before they are written take steps to outcomes that agree, so the emitted bytes, the
bus transactions, `cycle_ok` and `busy` never differ. -/
def Obligations.UnspecifiedValuesAreUnobservable : Prop :=
  ∀ s t : State, s.Agree t → outcomesAgree (step s) (step t)

/-- 92_eei_decisions.md D13: after a reset, or in any other IDLE state, every unspecified element may hold any value and any run
of any length ends in the same way: the same stop, or states with the same environment, counter, status and `st`. -/
def Obligations.IdleRunsDoNotDependOnUnspecifiedValues : Prop :=
  ∀ (s : State) (n : Nat) (buf : Vector Word 64) (crc : Word) (c : BitVec 4) (i rlen : Byte) (rbuf : Vector Byte 22)
    (fseq : Byte) (draws : Nat), s.st = .idle →
    outcomesAgree (runSteps n s)
      (runSteps n { s with buf := buf, crc := crc, c := c, i := i, rlen := rlen, rbuf := rbuf, fseq := fseq, draws := draws })

/-! Runs: a frame, a scan, a trigger, a stream of commands. -/

/-- 44_frame_encoder.md R190; 20_memory.md R62; 30_encoding.md R75: from the start of a frame, with each byte accepted and no reset,
137 steps emit exactly the frame of `seq` and `buf`, advance the counter by one and end in IDLE; the buffer, the status,
the command input and the bus record are as they were. -/
def Obligations.AFrameTakes137Steps : Prop :=
  ∀ s : State, s.st = .frmHdr → s.i = 0#8 → s.env.noReset → s.env.outputAccepted →
    ∃ t : State, runSteps 137 s = .next t ∧ t.st = .idle ∧
      t.env.txOut = s.env.txOut ++ frameBytes s.seq s.buf ∧ t.seq = s.seq + 1#8 ∧
      t.buf = s.buf ∧ t.cycleOk = s.cycleOk ∧ t.params = s.params ∧ t.env.cmdIn = s.env.cmdIn ∧
      t.env.busLog = s.env.busLog ∧ t.env.busRd = s.env.busRd ∧ t.env.busWr = s.env.busWr

/-- 43_scan_aggregator.md R161, R162, R164; 20_memory.md R61: from SCAN_INIT, whatever the bus target answers as long as each
transaction completes, and with no reset, the scan ends at the start of the frame within 65 steps: each entry is the
reading its own cycle and sub-slot decoded, or 0; the status bit of a cycle says whether its response had 10 bytes; the bus
transactions are those of cycles 0 to 15 in ascending order; nothing is emitted or taken and the counter is as it was. -/
def Obligations.AScanCollectsEveryCycle : Prop :=
  ∀ s : State, s.st = .scanInit → s.env.noReset → s.env.busCompletes →
    ∃ (n : Nat) (t : State), n ≤ 65 ∧ runSteps n s = .next t ∧ t.st = .frmHdr ∧ t.i = 0#8 ∧
      holdsScan s.params s.env.busRd t.buf ∧
      (s.params.hasCycleStatus = true → holdsStatus s.params s.env.busRd t.cycleOk) ∧
      t.env.busLog = s.env.busLog ++ scanEvents s.params s.env.busRd ∧
      t.env.busRd = answersBefore s.params.respCountMode 16 s.env.busRd ∧
      t.seq = s.seq ∧ t.params = s.params ∧ t.env.txOut = s.env.txOut ∧ t.env.cmdIn = s.env.cmdIn ∧
      t.env.txPort = s.env.txPort

/-- 45_command_dispatch.md R211, R214; 20_memory.md R63: from IDLE with a trigger byte first on the command input, each port
doing its duty and no reset, the block takes that byte, performs one scan, emits exactly one frame, that of the counter and
of what the scan left, advances the counter by one and is back in IDLE within 203 steps, with the bytes offered after the
trigger still there (R215). -/
def Obligations.OneTriggerOneScanOneFrame : Prop :=
  ∀ (s : State) (b : Byte) (rest : List Byte), s.st = .idle → s.env.cmdIn = b :: rest → b = 0x72#8 ∨ b = 0x52#8 →
    s.env.noReset → s.env.busCompletes → s.env.outputAccepted →
    ∃ (n : Nat) (t : State), n ≤ 203 ∧ runSteps n s = .next t ∧ t.st = .idle ∧ t.env.cmdIn = rest ∧
      holdsScan s.params s.env.busRd t.buf ∧
      (s.params.hasCycleStatus = true → holdsStatus s.params s.env.busRd t.cycleOk) ∧
      t.env.txOut = s.env.txOut ++ frameBytes s.seq t.buf ∧ t.seq = s.seq + 1#8 ∧
      t.env.busLog = s.env.busLog ++ scanEvents s.params s.env.busRd

/-- 44_frame_encoder.md R187, 70_reset_and_hazards.md R242, 45_command_dispatch.md R215: with each port doing its duty and no
reset, every byte offered is taken, in order; there are as many frames as trigger bytes among them, and frame k (from 0)
carries the sequence value `seq` + k modulo 256. Premise of the model (log 18, PRESUMED, unsafe): the transport keeps the bytes
offered while the block is busy, in order; the spec leaves that to the transport (45_command_dispatch.md R215,
92_eei_decisions.md D8, 93_implementation_defined.md U13), so the bytes counted are those it delivers. -/
def Obligations.EveryTriggerGetsItsNumberedFrame : Prop :=
  ∀ s : State, s.st = .idle → s.env.noReset → s.env.busCompletes → s.env.outputAccepted →
    ∃ (n : Nat) (t : State) (bufs : List (Vector Word 64)), runSteps n s = .next t ∧ t.st = .idle ∧ t.env.cmdIn = [] ∧
      bufs.length = (s.env.cmdIn.filter fun b => b == 0x72#8 || b == 0x52#8).length ∧
      t.seq = s.seq + BitVec.ofNat 8 bufs.length ∧
      t.env.txOut = s.env.txOut ++
        (bufs.mapIdx fun k buf => frameBytes (s.seq + BitVec.ofNat 8 k) buf).flatten

/-- 44_frame_encoder.md R191, 95_test_vectors.md L1-6: a scan in which every cycle is abandoned (the response it ends up with has
fewer than 10 bytes) still gives its frame, with 128 zero bytes and a valid checksum over them, and (where it exists) a
status of 0. -/
def Obligations.NoResponseGivesAZeroFrame : Prop :=
  ∀ (s : State) (b : Byte) (rest : List Byte), s.st = .idle → s.env.cmdIn = b :: rest → b = 0x72#8 ∨ b = 0x52#8 →
    s.env.noReset → s.env.busCompletes → s.env.outputAccepted →
    (∀ c : BitVec 4, (scanResponse s.params.respCountMode s.env.busRd c.toNat).length < 10) →
    ∃ (n : Nat) (t : State), runSteps n s = .next t ∧ t.st = .idle ∧
      (s.params.hasCycleStatus = true → t.cycleOk = 0#16) ∧
      t.env.txOut = s.env.txOut ++ [0x43#8, 0x41#8, 0x36#8, 0x34#8, 0x80#8, 0x00#8, s.seq] ++ List.replicate 128 0#8 ++
        leBytes (crc16 ([s.seq, 0x80#8, 0x00#8] ++ List.replicate 128 0#8))
end

