-- ==== Sys2Proof/Laws/Crc.lean ====
section
/-! SUPPORT. The small lemmas of the CRC engine, of the byte orders and of the frame's byte sequences. -/

namespace Sys2Proof.Machine

@[simp] theorem crc16_nil : crc16 [] = crcInit := rfl

/-- Absorbing one byte more. -/
theorem crc16_concat (l : List Byte) (b : Byte) : crc16 (l ++ [b]) = crcByte (crc16 l) b := by simp [crc16]

@[simp] theorem payload_length (buf : Vector Word 64) : (payload buf).length = 128 := by simp [payload]

@[simp] theorem header_length : header.length = 4 := rfl

@[simp] theorem lengthField_length : lengthField.length = 2 := rfl

@[simp] theorem leBytes_length (v : Word) : (leBytes v).length = 2 := rfl

@[simp] theorem crcInput_length (f : Byte) (buf : Vector Word 64) : (crcInput f buf).length = 131 := by simp [crcInput]

@[simp] theorem frameBytes_length (f : Byte) (buf : Vector Word 64) : (frameBytes f buf).length = 137 := by
  simp [frameBytes]

/-- Payload byte `j` of the sequence is what the serialization rule says. -/
theorem payload_getElem (buf : Vector Word 64) (j : Nat) (h : j < (payload buf).length) :
    (payload buf)[j] = payloadByte buf (BitVec.ofNat 7 j) := by simp [payload]

theorem payload_getElem? (buf : Vector Word 64) (j : Nat) (h : j < 128) :
    (payload buf)[j]? = some (payloadByte buf (BitVec.ofNat 7 j)) := by simp [payload, h]

theorem lowByte_eq (v : Word) : lowByte v = v.setWidth 8 := by ext i hi; simp [lowByte]

theorem highByte_eq (v : Word) : highByte v = (v >>> 8).setWidth 8 := by ext i hi; simp [highByte]

/-- Little-endian assembly over numbers. -/
theorem fromLE_toNat (l h : Byte) : (fromLE l h).toNat = l.toNat + 256 * h.toNat := by
  have hl := l.isLt
  have hh := h.isLt
  unfold fromLE
  rw [BitVec.toNat_or, BitVec.toNat_shiftLeft, BitVec.toNat_setWidth, BitVec.toNat_setWidth,
    Nat.mod_eq_of_lt (by omega : l.toNat < 2 ^ 16), Nat.mod_eq_of_lt (by omega : h.toNat < 2 ^ 16), Nat.or_comm,
    Nat.mod_eq_of_lt (by rw [Nat.shiftLeft_eq]; omega), ← Nat.shiftLeft_add_eq_or_of_lt hl, Nat.shiftLeft_eq]
  omega

/-! The frame, offset by offset. -/

section
variable (f : Byte) (buf : Vector Word 64)

theorem frameBytes_header {n : Nat} (h : n < 4) : (frameBytes f buf).getD n 0#8 = header.getD n 0#8 := by
  simp only [List.getD_eq_getElem?_getD, frameBytes, List.append_assoc]
  rw [List.getElem?_append_left (by simpa)]

theorem frameBytes_lengthField {n : Nat} (h : n < 2) :
    (frameBytes f buf).getD (4 + n) 0#8 = lengthField.getD n 0#8 := by
  simp only [List.getD_eq_getElem?_getD, frameBytes, List.append_assoc]
  rw [List.getElem?_append_right (by simp), List.getElem?_append_left (by simp; omega)]
  simp

theorem frameBytes_seq : (frameBytes f buf).getD 6 0#8 = f := by
  simp [List.getD_eq_getElem?_getD, frameBytes, header, lengthField]

theorem frameBytes_payload {n : Nat} (h : n < 128) :
    (frameBytes f buf).getD (7 + n) 0#8 = payloadByte buf (BitVec.ofNat 7 n) := by
  have e : frameBytes f buf = (header ++ lengthField ++ [f]) ++ (payload buf ++ leBytes (crc16 (crcInput f buf))) := by
    simp [frameBytes]
  rw [e, List.getD_eq_getElem?_getD, List.getElem?_append_right (by simp), List.getElem?_append_left (by simpa)]
  simp [payload_getElem? buf n h]

theorem frameBytes_trailer (n : Nat) :
    (frameBytes f buf).getD (135 + n) 0#8 = (leBytes (crc16 (crcInput f buf))).getD n 0#8 := by
  have e : frameBytes f buf = (header ++ lengthField ++ [f] ++ payload buf) ++ leBytes (crc16 (crcInput f buf)) := by
    simp [frameBytes]
  rw [e, List.getD_eq_getElem?_getD, List.getElem?_append_right (by simp)]
  simp

/-- One payload byte more of CRCIN. -/
theorem crcInput_take_succ {n : Nat} (h : n < 128) :
    (crcInput f buf).take (3 + (n + 1)) =
      (crcInput f buf).take (3 + n) ++ [payloadByte buf (BitVec.ofNat 7 n)] := by
  have e : crcInput f buf = (f :: lengthField) ++ payload buf := rfl
  rw [show 3 + (n + 1) = (3 + n) + 1 by omega, List.take_add_one, e, List.getElem?_append_right (by simp)]
  simp [payload_getElem? buf n h]

end

end Sys2Proof.Machine
end

