-- ==== Sys2Proof/Laws/State.lean ====
section
/-! SUPPORT. One lemma for each field of State after each named update, so that no proof unfolds a record update. -/

namespace Sys2Proof.Machine

variable (s : State)

@[simp] theorem State.goto_params (t : SeqState) : (s.goto t).params = s.params := rfl
@[simp] theorem State.goto_st (t : SeqState) : (s.goto t).st = t := rfl
@[simp] theorem State.goto_seq (t : SeqState) : (s.goto t).seq = s.seq := rfl
@[simp] theorem State.goto_buf (t : SeqState) : (s.goto t).buf = s.buf := rfl
@[simp] theorem State.goto_crc (t : SeqState) : (s.goto t).crc = s.crc := rfl
@[simp] theorem State.goto_c (t : SeqState) : (s.goto t).c = s.c := rfl
@[simp] theorem State.goto_i (t : SeqState) : (s.goto t).i = s.i := rfl
@[simp] theorem State.goto_rlen (t : SeqState) : (s.goto t).rlen = s.rlen := rfl
@[simp] theorem State.goto_rbuf (t : SeqState) : (s.goto t).rbuf = s.rbuf := rfl
@[simp] theorem State.goto_fseq (t : SeqState) : (s.goto t).fseq = s.fseq := rfl
@[simp] theorem State.goto_cycleOk (t : SeqState) : (s.goto t).cycleOk = s.cycleOk := rfl
@[simp] theorem State.goto_draws (t : SeqState) : (s.goto t).draws = s.draws := rfl
@[simp] theorem State.goto_env (t : SeqState) : (s.goto t).env = s.env := rfl

@[simp] theorem State.setIndex_params (n : Byte) : (s.setIndex n).params = s.params := rfl
@[simp] theorem State.setIndex_st (n : Byte) : (s.setIndex n).st = s.st := rfl
@[simp] theorem State.setIndex_seq (n : Byte) : (s.setIndex n).seq = s.seq := rfl
@[simp] theorem State.setIndex_buf (n : Byte) : (s.setIndex n).buf = s.buf := rfl
@[simp] theorem State.setIndex_crc (n : Byte) : (s.setIndex n).crc = s.crc := rfl
@[simp] theorem State.setIndex_c (n : Byte) : (s.setIndex n).c = s.c := rfl
@[simp] theorem State.setIndex_i (n : Byte) : (s.setIndex n).i = n := rfl
@[simp] theorem State.setIndex_rlen (n : Byte) : (s.setIndex n).rlen = s.rlen := rfl
@[simp] theorem State.setIndex_rbuf (n : Byte) : (s.setIndex n).rbuf = s.rbuf := rfl
@[simp] theorem State.setIndex_fseq (n : Byte) : (s.setIndex n).fseq = s.fseq := rfl
@[simp] theorem State.setIndex_cycleOk (n : Byte) : (s.setIndex n).cycleOk = s.cycleOk := rfl
@[simp] theorem State.setIndex_draws (n : Byte) : (s.setIndex n).draws = s.draws := rfl
@[simp] theorem State.setIndex_env (n : Byte) : (s.setIndex n).env = s.env := rfl

@[simp] theorem State.setCycle_params (n : BitVec 4) : (s.setCycle n).params = s.params := rfl
@[simp] theorem State.setCycle_st (n : BitVec 4) : (s.setCycle n).st = s.st := rfl
@[simp] theorem State.setCycle_seq (n : BitVec 4) : (s.setCycle n).seq = s.seq := rfl
@[simp] theorem State.setCycle_buf (n : BitVec 4) : (s.setCycle n).buf = s.buf := rfl
@[simp] theorem State.setCycle_crc (n : BitVec 4) : (s.setCycle n).crc = s.crc := rfl
@[simp] theorem State.setCycle_c (n : BitVec 4) : (s.setCycle n).c = n := rfl
@[simp] theorem State.setCycle_i (n : BitVec 4) : (s.setCycle n).i = s.i := rfl
@[simp] theorem State.setCycle_rlen (n : BitVec 4) : (s.setCycle n).rlen = s.rlen := rfl
@[simp] theorem State.setCycle_rbuf (n : BitVec 4) : (s.setCycle n).rbuf = s.rbuf := rfl
@[simp] theorem State.setCycle_fseq (n : BitVec 4) : (s.setCycle n).fseq = s.fseq := rfl
@[simp] theorem State.setCycle_cycleOk (n : BitVec 4) : (s.setCycle n).cycleOk = s.cycleOk := rfl
@[simp] theorem State.setCycle_draws (n : BitVec 4) : (s.setCycle n).draws = s.draws := rfl
@[simp] theorem State.setCycle_env (n : BitVec 4) : (s.setCycle n).env = s.env := rfl

@[simp] theorem State.setEntry_params (e : BitVec 6) (v : Word) : (s.setEntry e v).params = s.params := rfl
@[simp] theorem State.setEntry_st (e : BitVec 6) (v : Word) : (s.setEntry e v).st = s.st := rfl
@[simp] theorem State.setEntry_seq (e : BitVec 6) (v : Word) : (s.setEntry e v).seq = s.seq := rfl
@[simp] theorem State.setEntry_buf (e : BitVec 6) (v : Word) : (s.setEntry e v).buf = s.buf.set e.toNat v e.isLt := rfl
@[simp] theorem State.setEntry_crc (e : BitVec 6) (v : Word) : (s.setEntry e v).crc = s.crc := rfl
@[simp] theorem State.setEntry_c (e : BitVec 6) (v : Word) : (s.setEntry e v).c = s.c := rfl
@[simp] theorem State.setEntry_i (e : BitVec 6) (v : Word) : (s.setEntry e v).i = s.i := rfl
@[simp] theorem State.setEntry_rlen (e : BitVec 6) (v : Word) : (s.setEntry e v).rlen = s.rlen := rfl
@[simp] theorem State.setEntry_rbuf (e : BitVec 6) (v : Word) : (s.setEntry e v).rbuf = s.rbuf := rfl
@[simp] theorem State.setEntry_fseq (e : BitVec 6) (v : Word) : (s.setEntry e v).fseq = s.fseq := rfl
@[simp] theorem State.setEntry_cycleOk (e : BitVec 6) (v : Word) : (s.setEntry e v).cycleOk = s.cycleOk := rfl
@[simp] theorem State.setEntry_draws (e : BitVec 6) (v : Word) : (s.setEntry e v).draws = s.draws := rfl
@[simp] theorem State.setEntry_env (e : BitVec 6) (v : Word) : (s.setEntry e v).env = s.env := rfl

@[simp] theorem State.clearBuffer_params : (s.clearBuffer).params = s.params := rfl
@[simp] theorem State.clearBuffer_st : (s.clearBuffer).st = s.st := rfl
@[simp] theorem State.clearBuffer_seq : (s.clearBuffer).seq = s.seq := rfl
@[simp] theorem State.clearBuffer_buf : (s.clearBuffer).buf = Vector.replicate 64 0#16 := rfl
@[simp] theorem State.clearBuffer_crc : (s.clearBuffer).crc = s.crc := rfl
@[simp] theorem State.clearBuffer_c : (s.clearBuffer).c = s.c := rfl
@[simp] theorem State.clearBuffer_i : (s.clearBuffer).i = s.i := rfl
@[simp] theorem State.clearBuffer_rlen : (s.clearBuffer).rlen = s.rlen := rfl
@[simp] theorem State.clearBuffer_rbuf : (s.clearBuffer).rbuf = s.rbuf := rfl
@[simp] theorem State.clearBuffer_fseq : (s.clearBuffer).fseq = s.fseq := rfl
@[simp] theorem State.clearBuffer_cycleOk : (s.clearBuffer).cycleOk = s.cycleOk := rfl
@[simp] theorem State.clearBuffer_draws : (s.clearBuffer).draws = s.draws := rfl
@[simp] theorem State.clearBuffer_env : (s.clearBuffer).env = s.env := rfl

@[simp] theorem State.seedCrc_params : (s.seedCrc).params = s.params := rfl
@[simp] theorem State.seedCrc_st : (s.seedCrc).st = s.st := rfl
@[simp] theorem State.seedCrc_seq : (s.seedCrc).seq = s.seq := rfl
@[simp] theorem State.seedCrc_buf : (s.seedCrc).buf = s.buf := rfl
@[simp] theorem State.seedCrc_crc : (s.seedCrc).crc = crcInit := rfl
@[simp] theorem State.seedCrc_c : (s.seedCrc).c = s.c := rfl
@[simp] theorem State.seedCrc_i : (s.seedCrc).i = s.i := rfl
@[simp] theorem State.seedCrc_rlen : (s.seedCrc).rlen = s.rlen := rfl
@[simp] theorem State.seedCrc_rbuf : (s.seedCrc).rbuf = s.rbuf := rfl
@[simp] theorem State.seedCrc_fseq : (s.seedCrc).fseq = s.fseq := rfl
@[simp] theorem State.seedCrc_cycleOk : (s.seedCrc).cycleOk = s.cycleOk := rfl
@[simp] theorem State.seedCrc_draws : (s.seedCrc).draws = s.draws := rfl
@[simp] theorem State.seedCrc_env : (s.seedCrc).env = s.env := rfl

@[simp] theorem State.absorb_params (b : Byte) : (s.absorb b).params = s.params := rfl
@[simp] theorem State.absorb_st (b : Byte) : (s.absorb b).st = s.st := rfl
@[simp] theorem State.absorb_seq (b : Byte) : (s.absorb b).seq = s.seq := rfl
@[simp] theorem State.absorb_buf (b : Byte) : (s.absorb b).buf = s.buf := rfl
@[simp] theorem State.absorb_crc (b : Byte) : (s.absorb b).crc = crcByte s.crc b := rfl
@[simp] theorem State.absorb_c (b : Byte) : (s.absorb b).c = s.c := rfl
@[simp] theorem State.absorb_i (b : Byte) : (s.absorb b).i = s.i := rfl
@[simp] theorem State.absorb_rlen (b : Byte) : (s.absorb b).rlen = s.rlen := rfl
@[simp] theorem State.absorb_rbuf (b : Byte) : (s.absorb b).rbuf = s.rbuf := rfl
@[simp] theorem State.absorb_fseq (b : Byte) : (s.absorb b).fseq = s.fseq := rfl
@[simp] theorem State.absorb_cycleOk (b : Byte) : (s.absorb b).cycleOk = s.cycleOk := rfl
@[simp] theorem State.absorb_draws (b : Byte) : (s.absorb b).draws = s.draws := rfl
@[simp] theorem State.absorb_env (b : Byte) : (s.absorb b).env = s.env := rfl

@[simp] theorem State.advanceSeq_params : (s.advanceSeq).params = s.params := rfl
@[simp] theorem State.advanceSeq_st : (s.advanceSeq).st = s.st := rfl
@[simp] theorem State.advanceSeq_seq : (s.advanceSeq).seq = s.seq + 1#8 := rfl
@[simp] theorem State.advanceSeq_buf : (s.advanceSeq).buf = s.buf := rfl
@[simp] theorem State.advanceSeq_crc : (s.advanceSeq).crc = s.crc := rfl
@[simp] theorem State.advanceSeq_c : (s.advanceSeq).c = s.c := rfl
@[simp] theorem State.advanceSeq_i : (s.advanceSeq).i = s.i := rfl
@[simp] theorem State.advanceSeq_rlen : (s.advanceSeq).rlen = s.rlen := rfl
@[simp] theorem State.advanceSeq_rbuf : (s.advanceSeq).rbuf = s.rbuf := rfl
@[simp] theorem State.advanceSeq_fseq : (s.advanceSeq).fseq = s.seq := rfl
@[simp] theorem State.advanceSeq_cycleOk : (s.advanceSeq).cycleOk = s.cycleOk := rfl
@[simp] theorem State.advanceSeq_draws : (s.advanceSeq).draws = s.draws := rfl
@[simp] theorem State.advanceSeq_env : (s.advanceSeq).env = s.env := rfl

@[simp] theorem State.keepResponse_params (l : List Byte) : (s.keepResponse l).params = s.params := rfl
@[simp] theorem State.keepResponse_st (l : List Byte) : (s.keepResponse l).st = s.st := rfl
@[simp] theorem State.keepResponse_seq (l : List Byte) : (s.keepResponse l).seq = s.seq := rfl
@[simp] theorem State.keepResponse_buf (l : List Byte) : (s.keepResponse l).buf = s.buf := rfl
@[simp] theorem State.keepResponse_crc (l : List Byte) : (s.keepResponse l).crc = s.crc := rfl
@[simp] theorem State.keepResponse_c (l : List Byte) : (s.keepResponse l).c = s.c := rfl
@[simp] theorem State.keepResponse_i (l : List Byte) : (s.keepResponse l).i = s.i := rfl
@[simp] theorem State.keepResponse_rlen (l : List Byte) : (s.keepResponse l).rlen =
    BitVec.ofNat 8 (min l.length 255) := rfl
@[simp] theorem State.keepResponse_rbuf (l : List Byte) : (s.keepResponse l).rbuf =
    Vector.ofFn fun j : Fin 22 => l.getD j.val (Config.freeRbuf s.draws)[j] := rfl
@[simp] theorem State.keepResponse_fseq (l : List Byte) : (s.keepResponse l).fseq = s.fseq := rfl
@[simp] theorem State.keepResponse_cycleOk (l : List Byte) : (s.keepResponse l).cycleOk = s.cycleOk := rfl
@[simp] theorem State.keepResponse_draws (l : List Byte) : (s.keepResponse l).draws =
    if l.length < 22 then s.draws + 1 else s.draws := rfl
@[simp] theorem State.keepResponse_env (l : List Byte) : (s.keepResponse l).env = s.env := rfl

@[simp] theorem State.setCycleOk_params (j : BitVec 4) (ok : Bool) : (s.setCycleOk j ok).params = s.params := rfl
@[simp] theorem State.setCycleOk_st (j : BitVec 4) (ok : Bool) : (s.setCycleOk j ok).st = s.st := rfl
@[simp] theorem State.setCycleOk_seq (j : BitVec 4) (ok : Bool) : (s.setCycleOk j ok).seq = s.seq := rfl
@[simp] theorem State.setCycleOk_buf (j : BitVec 4) (ok : Bool) : (s.setCycleOk j ok).buf = s.buf := rfl
@[simp] theorem State.setCycleOk_crc (j : BitVec 4) (ok : Bool) : (s.setCycleOk j ok).crc = s.crc := rfl
@[simp] theorem State.setCycleOk_c (j : BitVec 4) (ok : Bool) : (s.setCycleOk j ok).c = s.c := rfl
@[simp] theorem State.setCycleOk_i (j : BitVec 4) (ok : Bool) : (s.setCycleOk j ok).i = s.i := rfl
@[simp] theorem State.setCycleOk_rlen (j : BitVec 4) (ok : Bool) : (s.setCycleOk j ok).rlen = s.rlen := rfl
@[simp] theorem State.setCycleOk_rbuf (j : BitVec 4) (ok : Bool) : (s.setCycleOk j ok).rbuf = s.rbuf := rfl
@[simp] theorem State.setCycleOk_fseq (j : BitVec 4) (ok : Bool) : (s.setCycleOk j ok).fseq = s.fseq := rfl
@[simp] theorem State.setCycleOk_cycleOk (j : BitVec 4) (ok : Bool) : (s.setCycleOk j ok).cycleOk =
    if s.params.hasCycleStatus then writeBit s.cycleOk j ok else s.cycleOk := rfl
@[simp] theorem State.setCycleOk_draws (j : BitVec 4) (ok : Bool) : (s.setCycleOk j ok).draws = s.draws := rfl
@[simp] theorem State.setCycleOk_env (j : BitVec 4) (ok : Bool) : (s.setCycleOk j ok).env = s.env := rfl

@[simp] theorem State.clearCycleOk_params : (s.clearCycleOk).params = s.params := rfl
@[simp] theorem State.clearCycleOk_st : (s.clearCycleOk).st = s.st := rfl
@[simp] theorem State.clearCycleOk_seq : (s.clearCycleOk).seq = s.seq := rfl
@[simp] theorem State.clearCycleOk_buf : (s.clearCycleOk).buf = s.buf := rfl
@[simp] theorem State.clearCycleOk_crc : (s.clearCycleOk).crc = s.crc := rfl
@[simp] theorem State.clearCycleOk_c : (s.clearCycleOk).c = s.c := rfl
@[simp] theorem State.clearCycleOk_i : (s.clearCycleOk).i = s.i := rfl
@[simp] theorem State.clearCycleOk_rlen : (s.clearCycleOk).rlen = s.rlen := rfl
@[simp] theorem State.clearCycleOk_rbuf : (s.clearCycleOk).rbuf = s.rbuf := rfl
@[simp] theorem State.clearCycleOk_fseq : (s.clearCycleOk).fseq = s.fseq := rfl
@[simp] theorem State.clearCycleOk_cycleOk : (s.clearCycleOk).cycleOk =
    if s.params.hasCycleStatus then 0#16 else s.cycleOk := rfl
@[simp] theorem State.clearCycleOk_draws : (s.clearCycleOk).draws = s.draws := rfl
@[simp] theorem State.clearCycleOk_env : (s.clearCycleOk).env = s.env := rfl

@[simp] theorem State.leaveOffered_params (l : List Byte) : (s.leaveOffered l).params = s.params := rfl
@[simp] theorem State.leaveOffered_st (l : List Byte) : (s.leaveOffered l).st = s.st := rfl
@[simp] theorem State.leaveOffered_seq (l : List Byte) : (s.leaveOffered l).seq = s.seq := rfl
@[simp] theorem State.leaveOffered_buf (l : List Byte) : (s.leaveOffered l).buf = s.buf := rfl
@[simp] theorem State.leaveOffered_crc (l : List Byte) : (s.leaveOffered l).crc = s.crc := rfl
@[simp] theorem State.leaveOffered_c (l : List Byte) : (s.leaveOffered l).c = s.c := rfl
@[simp] theorem State.leaveOffered_i (l : List Byte) : (s.leaveOffered l).i = s.i := rfl
@[simp] theorem State.leaveOffered_rlen (l : List Byte) : (s.leaveOffered l).rlen = s.rlen := rfl
@[simp] theorem State.leaveOffered_rbuf (l : List Byte) : (s.leaveOffered l).rbuf = s.rbuf := rfl
@[simp] theorem State.leaveOffered_fseq (l : List Byte) : (s.leaveOffered l).fseq = s.fseq := rfl
@[simp] theorem State.leaveOffered_cycleOk (l : List Byte) : (s.leaveOffered l).cycleOk = s.cycleOk := rfl
@[simp] theorem State.leaveOffered_draws (l : List Byte) : (s.leaveOffered l).draws = s.draws := rfl
@[simp] theorem State.leaveOffered_env (l : List Byte) : (s.leaveOffered l).env = { s.env with cmdIn := l } := rfl

@[simp] theorem State.emit_params (b : Byte) : (s.emit b).params = s.params := rfl
@[simp] theorem State.emit_st (b : Byte) : (s.emit b).st = s.st := rfl
@[simp] theorem State.emit_seq (b : Byte) : (s.emit b).seq = s.seq := rfl
@[simp] theorem State.emit_buf (b : Byte) : (s.emit b).buf = s.buf := rfl
@[simp] theorem State.emit_crc (b : Byte) : (s.emit b).crc = s.crc := rfl
@[simp] theorem State.emit_c (b : Byte) : (s.emit b).c = s.c := rfl
@[simp] theorem State.emit_i (b : Byte) : (s.emit b).i = s.i := rfl
@[simp] theorem State.emit_rlen (b : Byte) : (s.emit b).rlen = s.rlen := rfl
@[simp] theorem State.emit_rbuf (b : Byte) : (s.emit b).rbuf = s.rbuf := rfl
@[simp] theorem State.emit_fseq (b : Byte) : (s.emit b).fseq = s.fseq := rfl
@[simp] theorem State.emit_cycleOk (b : Byte) : (s.emit b).cycleOk = s.cycleOk := rfl
@[simp] theorem State.emit_draws (b : Byte) : (s.emit b).draws = s.draws := rfl
@[simp] theorem State.emit_env (b : Byte) : (s.emit b).env = { s.env with txOut := s.env.txOut ++ [b] } := rfl

@[simp] theorem State.record_params (e : BusEvent) : (s.record e).params = s.params := rfl
@[simp] theorem State.record_st (e : BusEvent) : (s.record e).st = s.st := rfl
@[simp] theorem State.record_seq (e : BusEvent) : (s.record e).seq = s.seq := rfl
@[simp] theorem State.record_buf (e : BusEvent) : (s.record e).buf = s.buf := rfl
@[simp] theorem State.record_crc (e : BusEvent) : (s.record e).crc = s.crc := rfl
@[simp] theorem State.record_c (e : BusEvent) : (s.record e).c = s.c := rfl
@[simp] theorem State.record_i (e : BusEvent) : (s.record e).i = s.i := rfl
@[simp] theorem State.record_rlen (e : BusEvent) : (s.record e).rlen = s.rlen := rfl
@[simp] theorem State.record_rbuf (e : BusEvent) : (s.record e).rbuf = s.rbuf := rfl
@[simp] theorem State.record_fseq (e : BusEvent) : (s.record e).fseq = s.fseq := rfl
@[simp] theorem State.record_cycleOk (e : BusEvent) : (s.record e).cycleOk = s.cycleOk := rfl
@[simp] theorem State.record_draws (e : BusEvent) : (s.record e).draws = s.draws := rfl
@[simp] theorem State.record_env (e : BusEvent) : (s.record e).env = { s.env with busLog := s.env.busLog ++ [e] } := rfl

@[simp] theorem State.dropTxAnswer_params : (s.dropTxAnswer).params = s.params := rfl
@[simp] theorem State.dropTxAnswer_st : (s.dropTxAnswer).st = s.st := rfl
@[simp] theorem State.dropTxAnswer_seq : (s.dropTxAnswer).seq = s.seq := rfl
@[simp] theorem State.dropTxAnswer_buf : (s.dropTxAnswer).buf = s.buf := rfl
@[simp] theorem State.dropTxAnswer_crc : (s.dropTxAnswer).crc = s.crc := rfl
@[simp] theorem State.dropTxAnswer_c : (s.dropTxAnswer).c = s.c := rfl
@[simp] theorem State.dropTxAnswer_i : (s.dropTxAnswer).i = s.i := rfl
@[simp] theorem State.dropTxAnswer_rlen : (s.dropTxAnswer).rlen = s.rlen := rfl
@[simp] theorem State.dropTxAnswer_rbuf : (s.dropTxAnswer).rbuf = s.rbuf := rfl
@[simp] theorem State.dropTxAnswer_fseq : (s.dropTxAnswer).fseq = s.fseq := rfl
@[simp] theorem State.dropTxAnswer_cycleOk : (s.dropTxAnswer).cycleOk = s.cycleOk := rfl
@[simp] theorem State.dropTxAnswer_draws : (s.dropTxAnswer).draws = s.draws := rfl
@[simp] theorem State.dropTxAnswer_env : (s.dropTxAnswer).env = { s.env with txPort := s.env.txPort.tail } := rfl

@[simp] theorem State.dropWriteAnswer_params : (s.dropWriteAnswer).params = s.params := rfl
@[simp] theorem State.dropWriteAnswer_st : (s.dropWriteAnswer).st = s.st := rfl
@[simp] theorem State.dropWriteAnswer_seq : (s.dropWriteAnswer).seq = s.seq := rfl
@[simp] theorem State.dropWriteAnswer_buf : (s.dropWriteAnswer).buf = s.buf := rfl
@[simp] theorem State.dropWriteAnswer_crc : (s.dropWriteAnswer).crc = s.crc := rfl
@[simp] theorem State.dropWriteAnswer_c : (s.dropWriteAnswer).c = s.c := rfl
@[simp] theorem State.dropWriteAnswer_i : (s.dropWriteAnswer).i = s.i := rfl
@[simp] theorem State.dropWriteAnswer_rlen : (s.dropWriteAnswer).rlen = s.rlen := rfl
@[simp] theorem State.dropWriteAnswer_rbuf : (s.dropWriteAnswer).rbuf = s.rbuf := rfl
@[simp] theorem State.dropWriteAnswer_fseq : (s.dropWriteAnswer).fseq = s.fseq := rfl
@[simp] theorem State.dropWriteAnswer_cycleOk : (s.dropWriteAnswer).cycleOk = s.cycleOk := rfl
@[simp] theorem State.dropWriteAnswer_draws : (s.dropWriteAnswer).draws = s.draws := rfl
@[simp] theorem State.dropWriteAnswer_env : (s.dropWriteAnswer).env = { s.env with busWr := s.env.busWr.tail } := rfl

@[simp] theorem State.dropReadAnswer_params : (s.dropReadAnswer).params = s.params := rfl
@[simp] theorem State.dropReadAnswer_st : (s.dropReadAnswer).st = s.st := rfl
@[simp] theorem State.dropReadAnswer_seq : (s.dropReadAnswer).seq = s.seq := rfl
@[simp] theorem State.dropReadAnswer_buf : (s.dropReadAnswer).buf = s.buf := rfl
@[simp] theorem State.dropReadAnswer_crc : (s.dropReadAnswer).crc = s.crc := rfl
@[simp] theorem State.dropReadAnswer_c : (s.dropReadAnswer).c = s.c := rfl
@[simp] theorem State.dropReadAnswer_i : (s.dropReadAnswer).i = s.i := rfl
@[simp] theorem State.dropReadAnswer_rlen : (s.dropReadAnswer).rlen = s.rlen := rfl
@[simp] theorem State.dropReadAnswer_rbuf : (s.dropReadAnswer).rbuf = s.rbuf := rfl
@[simp] theorem State.dropReadAnswer_fseq : (s.dropReadAnswer).fseq = s.fseq := rfl
@[simp] theorem State.dropReadAnswer_cycleOk : (s.dropReadAnswer).cycleOk = s.cycleOk := rfl
@[simp] theorem State.dropReadAnswer_draws : (s.dropReadAnswer).draws = s.draws := rfl
@[simp] theorem State.dropReadAnswer_env : (s.dropReadAnswer).env = { s.env with busRd := s.env.busRd.tail } := rfl

@[simp] theorem State.sampleReset_params : (s.sampleReset).params = s.params := rfl
@[simp] theorem State.sampleReset_st : (s.sampleReset).st = s.st := rfl
@[simp] theorem State.sampleReset_seq : (s.sampleReset).seq = s.seq := rfl
@[simp] theorem State.sampleReset_buf : (s.sampleReset).buf = s.buf := rfl
@[simp] theorem State.sampleReset_crc : (s.sampleReset).crc = s.crc := rfl
@[simp] theorem State.sampleReset_c : (s.sampleReset).c = s.c := rfl
@[simp] theorem State.sampleReset_i : (s.sampleReset).i = s.i := rfl
@[simp] theorem State.sampleReset_rlen : (s.sampleReset).rlen = s.rlen := rfl
@[simp] theorem State.sampleReset_rbuf : (s.sampleReset).rbuf = s.rbuf := rfl
@[simp] theorem State.sampleReset_fseq : (s.sampleReset).fseq = s.fseq := rfl
@[simp] theorem State.sampleReset_cycleOk : (s.sampleReset).cycleOk = s.cycleOk := rfl
@[simp] theorem State.sampleReset_draws : (s.sampleReset).draws = s.draws := rfl
@[simp] theorem State.sampleReset_env : (s.sampleReset).env = { s.env with resetIn := s.env.resetIn.tail } := rfl

@[simp] theorem State.raiseFault_params : (s.raiseFault).params = s.params := rfl
@[simp] theorem State.raiseFault_st : (s.raiseFault).st = .fault := rfl
@[simp] theorem State.raiseFault_seq : (s.raiseFault).seq = s.seq := rfl
@[simp] theorem State.raiseFault_buf : (s.raiseFault).buf = s.buf := rfl
@[simp] theorem State.raiseFault_crc : (s.raiseFault).crc = s.crc := rfl
@[simp] theorem State.raiseFault_c : (s.raiseFault).c = s.c := rfl
@[simp] theorem State.raiseFault_i : (s.raiseFault).i = s.i := rfl
@[simp] theorem State.raiseFault_rlen : (s.raiseFault).rlen = s.rlen := rfl
@[simp] theorem State.raiseFault_rbuf : (s.raiseFault).rbuf = s.rbuf := rfl
@[simp] theorem State.raiseFault_fseq : (s.raiseFault).fseq = s.fseq := rfl
@[simp] theorem State.raiseFault_cycleOk : (s.raiseFault).cycleOk = s.cycleOk := rfl
@[simp] theorem State.raiseFault_draws : (s.raiseFault).draws = s.draws := rfl
@[simp] theorem State.raiseFault_env : (s.raiseFault).env = s.env := rfl

@[simp] theorem State.resetEvent_params : (s.resetEvent).params = s.params := rfl
@[simp] theorem State.resetEvent_st : (s.resetEvent).st = .idle := rfl
@[simp] theorem State.resetEvent_seq : (s.resetEvent).seq = 0#8 := rfl
@[simp] theorem State.resetEvent_buf : (s.resetEvent).buf = Config.freeBuf s.draws := rfl
@[simp] theorem State.resetEvent_crc : (s.resetEvent).crc = Config.freeCrc s.draws := rfl
@[simp] theorem State.resetEvent_c : (s.resetEvent).c = Config.freeCycle s.draws := rfl
@[simp] theorem State.resetEvent_i : (s.resetEvent).i = Config.freeIndex s.draws := rfl
@[simp] theorem State.resetEvent_rlen : (s.resetEvent).rlen = Config.freeRlen s.draws := rfl
@[simp] theorem State.resetEvent_rbuf : (s.resetEvent).rbuf = Config.freeRbuf s.draws := rfl
@[simp] theorem State.resetEvent_fseq : (s.resetEvent).fseq = Config.freeFseq s.draws := rfl
@[simp] theorem State.resetEvent_cycleOk : (s.resetEvent).cycleOk =
    if s.params.hasCycleStatus then 0#16 else s.cycleOk := rfl
@[simp] theorem State.resetEvent_draws : (s.resetEvent).draws = s.draws + 1 := rfl
@[simp] theorem State.resetEvent_env : (s.resetEvent).env = s.env := rfl

end Sys2Proof.Machine
end

