-- ==== Sys2Proof/Laws/Frames.lean ====
section
/-! SUPPORT. The frame of each meaning, field by field: what it never writes; and what it always writes, with the value. -/

namespace Sys2Proof.Machine

variable (s : State)

@[simp] theorem startScan_params : (startScan s).params = s.params := rfl
@[simp] theorem startScan_seq : (startScan s).seq = s.seq := rfl
@[simp] theorem startScan_buf : (startScan s).buf = s.buf := rfl
@[simp] theorem startScan_crc : (startScan s).crc = s.crc := rfl
@[simp] theorem startScan_c : (startScan s).c = s.c := rfl
@[simp] theorem startScan_i : (startScan s).i = s.i := rfl
@[simp] theorem startScan_rlen : (startScan s).rlen = s.rlen := rfl
@[simp] theorem startScan_rbuf : (startScan s).rbuf = s.rbuf := rfl
@[simp] theorem startScan_fseq : (startScan s).fseq = s.fseq := rfl
@[simp] theorem startScan_cycleOk : (startScan s).cycleOk = s.cycleOk := rfl
@[simp] theorem startScan_draws : (startScan s).draws = s.draws := rfl
@[simp] theorem startScan_env : (startScan s).env = s.env := rfl
@[simp] theorem startScan_st : (startScan s).st = .scanInit := rfl

@[simp] theorem scanInit_params : (scanInit s).params = s.params := rfl
@[simp] theorem scanInit_seq : (scanInit s).seq = s.seq := rfl
@[simp] theorem scanInit_crc : (scanInit s).crc = s.crc := rfl
@[simp] theorem scanInit_i : (scanInit s).i = s.i := rfl
@[simp] theorem scanInit_rlen : (scanInit s).rlen = s.rlen := rfl
@[simp] theorem scanInit_rbuf : (scanInit s).rbuf = s.rbuf := rfl
@[simp] theorem scanInit_fseq : (scanInit s).fseq = s.fseq := rfl
@[simp] theorem scanInit_draws : (scanInit s).draws = s.draws := rfl
@[simp] theorem scanInit_env : (scanInit s).env = s.env := rfl
@[simp] theorem scanInit_st : (scanInit s).st = .cycCmd := rfl
@[simp] theorem scanInit_buf : (scanInit s).buf = Vector.replicate 64 0#16 := rfl
@[simp] theorem scanInit_cycleOk : (scanInit s).cycleOk = if s.params.hasCycleStatus then 0#16 else s.cycleOk := rfl
@[simp] theorem scanInit_c : (scanInit s).c = 0#4 := rfl

@[simp] theorem afterFullRead_params (l : List Byte) : (afterFullRead l s).params = s.params :=
    by unfold afterFullRead; split <;> rfl
@[simp] theorem afterFullRead_seq (l : List Byte) : (afterFullRead l s).seq = s.seq :=
    by unfold afterFullRead; split <;> rfl
@[simp] theorem afterFullRead_buf (l : List Byte) : (afterFullRead l s).buf = s.buf :=
    by unfold afterFullRead; split <;> rfl
@[simp] theorem afterFullRead_crc (l : List Byte) : (afterFullRead l s).crc = s.crc :=
    by unfold afterFullRead; split <;> rfl
@[simp] theorem afterFullRead_c (l : List Byte) : (afterFullRead l s).c = s.c := by unfold afterFullRead; split <;> rfl
@[simp] theorem afterFullRead_i (l : List Byte) : (afterFullRead l s).i = s.i := by unfold afterFullRead; split <;> rfl
@[simp] theorem afterFullRead_fseq (l : List Byte) : (afterFullRead l s).fseq = s.fseq :=
    by unfold afterFullRead; split <;> rfl
@[simp] theorem afterFullRead_cycleOk (l : List Byte) : (afterFullRead l s).cycleOk = s.cycleOk :=
    by unfold afterFullRead; split <;> rfl
@[simp] theorem afterFullRead_env (l : List Byte) : (afterFullRead l s).env = s.env :=
    by unfold afterFullRead; split <;> rfl

@[simp] theorem afterFallbackRead_params (l : List Byte) : (afterFallbackRead l s).params = s.params := rfl
@[simp] theorem afterFallbackRead_seq (l : List Byte) : (afterFallbackRead l s).seq = s.seq := rfl
@[simp] theorem afterFallbackRead_buf (l : List Byte) : (afterFallbackRead l s).buf = s.buf := rfl
@[simp] theorem afterFallbackRead_crc (l : List Byte) : (afterFallbackRead l s).crc = s.crc := rfl
@[simp] theorem afterFallbackRead_c (l : List Byte) : (afterFallbackRead l s).c = s.c := rfl
@[simp] theorem afterFallbackRead_i (l : List Byte) : (afterFallbackRead l s).i = s.i := rfl
@[simp] theorem afterFallbackRead_fseq (l : List Byte) : (afterFallbackRead l s).fseq = s.fseq := rfl
@[simp] theorem afterFallbackRead_cycleOk (l : List Byte) : (afterFallbackRead l s).cycleOk = s.cycleOk := rfl
@[simp] theorem afterFallbackRead_env (l : List Byte) : (afterFallbackRead l s).env = s.env := rfl

@[simp] theorem scanAdvance_params : (scanAdvance s).params = s.params := by unfold scanAdvance; split <;> rfl
@[simp] theorem scanAdvance_seq : (scanAdvance s).seq = s.seq := by unfold scanAdvance; split <;> rfl
@[simp] theorem scanAdvance_buf : (scanAdvance s).buf = s.buf := by unfold scanAdvance; split <;> rfl
@[simp] theorem scanAdvance_crc : (scanAdvance s).crc = s.crc := by unfold scanAdvance; split <;> rfl
@[simp] theorem scanAdvance_rlen : (scanAdvance s).rlen = s.rlen := by unfold scanAdvance; split <;> rfl
@[simp] theorem scanAdvance_rbuf : (scanAdvance s).rbuf = s.rbuf := by unfold scanAdvance; split <;> rfl
@[simp] theorem scanAdvance_fseq : (scanAdvance s).fseq = s.fseq := by unfold scanAdvance; split <;> rfl
@[simp] theorem scanAdvance_cycleOk : (scanAdvance s).cycleOk = s.cycleOk := by unfold scanAdvance; split <;> rfl
@[simp] theorem scanAdvance_draws : (scanAdvance s).draws = s.draws := by unfold scanAdvance; split <;> rfl
@[simp] theorem scanAdvance_env : (scanAdvance s).env = s.env := by unfold scanAdvance; split <;> rfl

@[simp] theorem decodeElement_params (k : BitVec 2) : (decodeElement k s).params = s.params :=
    by unfold decodeElement; split <;> rfl
@[simp] theorem decodeElement_st (k : BitVec 2) : (decodeElement k s).st = s.st :=
    by unfold decodeElement; split <;> rfl
@[simp] theorem decodeElement_seq (k : BitVec 2) : (decodeElement k s).seq = s.seq :=
    by unfold decodeElement; split <;> rfl
@[simp] theorem decodeElement_crc (k : BitVec 2) : (decodeElement k s).crc = s.crc :=
    by unfold decodeElement; split <;> rfl
@[simp] theorem decodeElement_c (k : BitVec 2) : (decodeElement k s).c = s.c := by unfold decodeElement; split <;> rfl
@[simp] theorem decodeElement_i (k : BitVec 2) : (decodeElement k s).i = s.i := by unfold decodeElement; split <;> rfl
@[simp] theorem decodeElement_rlen (k : BitVec 2) : (decodeElement k s).rlen = s.rlen :=
    by unfold decodeElement; split <;> rfl
@[simp] theorem decodeElement_rbuf (k : BitVec 2) : (decodeElement k s).rbuf = s.rbuf :=
    by unfold decodeElement; split <;> rfl
@[simp] theorem decodeElement_fseq (k : BitVec 2) : (decodeElement k s).fseq = s.fseq :=
    by unfold decodeElement; split <;> rfl
@[simp] theorem decodeElement_cycleOk (k : BitVec 2) : (decodeElement k s).cycleOk = s.cycleOk :=
    by unfold decodeElement; split <;> rfl
@[simp] theorem decodeElement_draws (k : BitVec 2) : (decodeElement k s).draws = s.draws :=
    by unfold decodeElement; split <;> rfl
@[simp] theorem decodeElement_env (k : BitVec 2) : (decodeElement k s).env = s.env :=
    by unfold decodeElement; split <;> rfl

@[simp] theorem decodeElements_params : (decodeElements s).params = s.params := by simp [decodeElements]
@[simp] theorem decodeElements_st : (decodeElements s).st = s.st := by simp [decodeElements]
@[simp] theorem decodeElements_seq : (decodeElements s).seq = s.seq := by simp [decodeElements]
@[simp] theorem decodeElements_crc : (decodeElements s).crc = s.crc := by simp [decodeElements]
@[simp] theorem decodeElements_c : (decodeElements s).c = s.c := by simp [decodeElements]
@[simp] theorem decodeElements_i : (decodeElements s).i = s.i := by simp [decodeElements]
@[simp] theorem decodeElements_rlen : (decodeElements s).rlen = s.rlen := by simp [decodeElements]
@[simp] theorem decodeElements_rbuf : (decodeElements s).rbuf = s.rbuf := by simp [decodeElements]
@[simp] theorem decodeElements_fseq : (decodeElements s).fseq = s.fseq := by simp [decodeElements]
@[simp] theorem decodeElements_cycleOk : (decodeElements s).cycleOk = s.cycleOk := by simp [decodeElements]
@[simp] theorem decodeElements_draws : (decodeElements s).draws = s.draws := by simp [decodeElements]
@[simp] theorem decodeElements_env : (decodeElements s).env = s.env := by simp [decodeElements]

@[simp] theorem cycDec_params : (cycDec s).params = s.params := by unfold cycDec; split <;> simp
@[simp] theorem cycDec_seq : (cycDec s).seq = s.seq := by unfold cycDec; split <;> simp
@[simp] theorem cycDec_crc : (cycDec s).crc = s.crc := by unfold cycDec; split <;> simp
@[simp] theorem cycDec_rlen : (cycDec s).rlen = s.rlen := by unfold cycDec; split <;> simp
@[simp] theorem cycDec_rbuf : (cycDec s).rbuf = s.rbuf := by unfold cycDec; split <;> simp
@[simp] theorem cycDec_fseq : (cycDec s).fseq = s.fseq := by unfold cycDec; split <;> simp
@[simp] theorem cycDec_draws : (cycDec s).draws = s.draws := by unfold cycDec; split <;> simp
@[simp] theorem cycDec_env : (cycDec s).env = s.env := by unfold cycDec; split <;> simp

@[simp] theorem stepField_params (last : Byte) (next : SeqState) : (stepField last next s).params = s.params :=
    by unfold stepField; split <;> rfl
@[simp] theorem stepField_seq (last : Byte) (next : SeqState) : (stepField last next s).seq = s.seq :=
    by unfold stepField; split <;> rfl
@[simp] theorem stepField_buf (last : Byte) (next : SeqState) : (stepField last next s).buf = s.buf :=
    by unfold stepField; split <;> rfl
@[simp] theorem stepField_crc (last : Byte) (next : SeqState) : (stepField last next s).crc = s.crc :=
    by unfold stepField; split <;> rfl
@[simp] theorem stepField_c (last : Byte) (next : SeqState) : (stepField last next s).c = s.c :=
    by unfold stepField; split <;> rfl
@[simp] theorem stepField_rlen (last : Byte) (next : SeqState) : (stepField last next s).rlen = s.rlen :=
    by unfold stepField; split <;> rfl
@[simp] theorem stepField_rbuf (last : Byte) (next : SeqState) : (stepField last next s).rbuf = s.rbuf :=
    by unfold stepField; split <;> rfl
@[simp] theorem stepField_fseq (last : Byte) (next : SeqState) : (stepField last next s).fseq = s.fseq :=
    by unfold stepField; split <;> rfl
@[simp] theorem stepField_cycleOk (last : Byte) (next : SeqState) : (stepField last next s).cycleOk = s.cycleOk :=
    by unfold stepField; split <;> rfl
@[simp] theorem stepField_draws (last : Byte) (next : SeqState) : (stepField last next s).draws = s.draws :=
    by unfold stepField; split <;> rfl
@[simp] theorem stepField_env (last : Byte) (next : SeqState) : (stepField last next s).env = s.env :=
    by unfold stepField; split <;> rfl

@[simp] theorem afterSeq_params : (afterSeq s).params = s.params := rfl
@[simp] theorem afterSeq_buf : (afterSeq s).buf = s.buf := rfl
@[simp] theorem afterSeq_c : (afterSeq s).c = s.c := rfl
@[simp] theorem afterSeq_rlen : (afterSeq s).rlen = s.rlen := rfl
@[simp] theorem afterSeq_rbuf : (afterSeq s).rbuf = s.rbuf := rfl
@[simp] theorem afterSeq_cycleOk : (afterSeq s).cycleOk = s.cycleOk := rfl
@[simp] theorem afterSeq_draws : (afterSeq s).draws = s.draws := rfl
@[simp] theorem afterSeq_env : (afterSeq s).env = s.env := rfl
@[simp] theorem afterSeq_st : (afterSeq s).st = .frmPay := rfl
@[simp] theorem afterSeq_seq : (afterSeq s).seq = s.seq + 1#8 := rfl
@[simp] theorem afterSeq_fseq : (afterSeq s).fseq = s.seq := rfl
@[simp] theorem afterSeq_i : (afterSeq s).i = 0#8 := rfl
@[simp] theorem afterSeq_crc : (afterSeq s).crc = crc16 [s.seq, 0x80#8, 0x00#8] := rfl

@[simp] theorem afterCrc_params : (afterCrc s).params = s.params := by unfold afterCrc; split <;> rfl
@[simp] theorem afterCrc_seq : (afterCrc s).seq = s.seq := by unfold afterCrc; split <;> rfl
@[simp] theorem afterCrc_buf : (afterCrc s).buf = s.buf := by unfold afterCrc; split <;> rfl
@[simp] theorem afterCrc_crc : (afterCrc s).crc = s.crc := by unfold afterCrc; split <;> rfl
@[simp] theorem afterCrc_c : (afterCrc s).c = s.c := by unfold afterCrc; split <;> rfl
@[simp] theorem afterCrc_rlen : (afterCrc s).rlen = s.rlen := by unfold afterCrc; split <;> rfl
@[simp] theorem afterCrc_rbuf : (afterCrc s).rbuf = s.rbuf := by unfold afterCrc; split <;> rfl
@[simp] theorem afterCrc_fseq : (afterCrc s).fseq = s.fseq := by unfold afterCrc; split <;> rfl
@[simp] theorem afterCrc_cycleOk : (afterCrc s).cycleOk = s.cycleOk := by unfold afterCrc; split <;> rfl
@[simp] theorem afterCrc_draws : (afterCrc s).draws = s.draws := by unfold afterCrc; split <;> rfl
@[simp] theorem afterCrc_env : (afterCrc s).env = s.env := by unfold afterCrc; split <;> rfl

end Sys2Proof.Machine
end

