-- ==== Sys2Proof/Laws/Ops.lean ====
section
/-! SUPPORT. For each shared operation, what it can do, said once. -/

namespace Sys2Proof.Machine

/-! Ports. -/

theorem txPut_of_accepted {b : Byte} {k : State → State} {s : State} (h : s.txAnswer = .accepted) :
    txPut b k s = .next (k (s.dropTxAnswer.emit b)) := by simp [txPut, h]

theorem txPut_of_failed {b : Byte} {k : State → State} {s : State} (h : s.txAnswer = .failed) :
    txPut b k s = .next s.dropTxAnswer.raiseFault := by simp [txPut, h]

theorem txPut_of_never {b : Byte} {k : State → State} {s : State} (h : s.txAnswer = .neverAccepted) :
    txPut b k s = .fault .outputStall := by simp [txPut, h]

/-- A put that answers a next state has emitted the byte and gone on, or has raised the fault. -/
theorem txPut_next {b : Byte} {k : State → State} {s t : State} (h : txPut b k s = .next t) :
    (s.txAnswer = .accepted ∧ t = k (s.dropTxAnswer.emit b)) ∨
    (s.txAnswer = .failed ∧ t = s.dropTxAnswer.raiseFault) := by
  unfold txPut at h
  split at h
  · exact .inl ⟨‹_›, by simpa using h.symm⟩
  · exact .inr ⟨‹_›, by simpa using h.symm⟩
  · cases h

/-- A put stops only where the byte is never accepted. -/
theorem txPut_fault {b : Byte} {k : State → State} {s : State} {f : Fault} (h : txPut b k s = .fault f) :
    s.txAnswer = .neverAccepted ∧ f = .outputStall := by
  unfold txPut at h
  split at h
  · cases h
  · cases h
  · exact ⟨‹_›, by simpa using h.symm⟩

theorem txPut_not_refused {b : Byte} {k : State → State} {s : State} {r : Refusal} : txPut b k s ≠ .refused r := by
  unfold txPut
  split <;> simp

/-- A bus write that answers a next state has completed, acknowledged or not. -/
theorem busWrite_next {l : List Byte} {hold : Bool} {k : State → State} {s t : State}
    (h : busWrite l hold k s = .next t) :
    (∃ a, s.writeAnswer = .completes a) ∧ t = k (s.dropWriteAnswer.record (.write s.params.busAddr l hold)) := by
  unfold busWrite at h
  split at h
  · exact ⟨⟨_, ‹_›⟩, by simpa using h.symm⟩
  · cases h

theorem busWrite_fault {l : List Byte} {hold : Bool} {k : State → State} {s : State} {f : Fault}
    (h : busWrite l hold k s = .fault f) : s.writeAnswer = .neverCompletes ∧ f = .busStall := by
  unfold busWrite at h
  split at h
  · cases h
  · exact ⟨‹_›, by simpa using h.symm⟩

theorem busWrite_not_refused {l : List Byte} {hold : Bool} {k : State → State} {s : State} {r : Refusal} :
    busWrite l hold k s ≠ .refused r := by
  unfold busWrite
  split <;> simp

/-- A bus read that answers a next state has delivered the listed bytes that fit the range. -/
theorem busRead_next {n : Nat} {k : List Byte → State → State} {s t : State} (h : busRead n k s = .next t) :
    ∃ listed, s.readAnswer = .returns listed ∧
      t = k (delivered s.params.respCountMode n listed)
        (s.dropReadAnswer.record (.read s.params.busAddr n (delivered s.params.respCountMode n listed).length)) := by
  unfold busRead at h
  split at h
  · exact ⟨_, ‹_›, by simpa using h.symm⟩
  · cases h

theorem busRead_fault {n : Nat} {k : List Byte → State → State} {s : State} {f : Fault} (h : busRead n k s = .fault f) :
    s.readAnswer = .neverCompletes ∧ f = .busStall := by
  unfold busRead at h
  split at h
  · cases h
  · exact ⟨‹_›, by simpa using h.symm⟩

theorem busRead_not_refused {n : Nat} {k : List Byte → State → State} {s : State} {r : Refusal} :
    busRead n k s ≠ .refused r := by
  unfold busRead
  split <;> simp

/-! The buffer. -/

/-- Reading entry `e` after entry `d` was written. -/
theorem State.setEntry_get (s : State) (d : BitVec 6) (v : Word) (e : BitVec 6) :
    (s.setEntry d v).buf[e.toNat]'e.isLt = if d = e then v else s.buf[e.toNat]'e.isLt := by
  by_cases h : d = e
  · subst h; simp
  · have : d.toNat ≠ e.toNat := fun h' => h (BitVec.eq_of_toNat_eq h')
    simp [h, Vector.getElem_set_ne _ _ this]

/-- Reading bit `j` of `cycle_ok` after bit `c` was written. -/
theorem writeBit_getLsbD (v : BitVec 16) (c j : BitVec 4) (b : Bool) :
    (writeBit v c b).getLsbD j.toNat = if j = c then b else v.getLsbD j.toNat := by
  have hj := j.isLt
  have hc := c.isLt
  have key : (1#16 <<< c.toNat).getLsbD j.toNat = decide (j = c) := by
    rw [BitVec.getLsbD_shiftLeft, BitVec.getLsbD_one]
    by_cases h : j = c
    · subst h; simp; omega
    · have : j.toNat ≠ c.toNat := fun h' => h (BitVec.eq_of_toNat_eq h')
      simp [h]; omega
  cases b <;> by_cases h : j = c <;> simp [writeBit, key, h]
  · intro _; omega
  · exact Or.inr (by omega)

/-! The decode writes nothing but the buffer. -/

section
variable (k : BitVec 2) (s : State)

/-- One element's decode: only the buffer changes. -/
theorem decodeElement_frame :
    decodeElement k s = { s with buf := (decodeElement k s).buf } := by
  unfold decodeElement
  split <;> rfl

/-- One element's decode, entry by entry. -/
theorem decodeElement_get (e : BitVec 6) :
    (decodeElement k s).buf[e.toNat]'e.isLt =
      if elementPresent s.rlen k = true ∧ mapIndex s.c k = e then elementValue s.rbuf k else s.buf[e.toNat]'e.isLt := by
  unfold decodeElement
  split
  · rw [State.setEntry_get]; simp [*]
  · simp [*]

/-- The whole decode: only the buffer changes. -/
theorem decodeElements_frame :
    decodeElements s = { s with buf := (decodeElements s).buf } := by
  unfold decodeElements
  rw [decodeElement_frame 3#2, decodeElement_frame 2#2, decodeElement_frame 1#2, decodeElement_frame 0#2]

end

/-! The index mapper, by evaluation of all 64 pairs. -/

theorem mapIndex_eq_iff :
    ∀ (c : BitVec 4) (k : BitVec 2) (e : BitVec 6),
      mapIndex c k = e ↔ mapIndex c (mapInverse e).2 = e ∧ k = (mapInverse e).2 := by decide +kernel

theorem mapIndex_inj :
    ∀ (c d : BitVec 4) (k l : BitVec 2), mapIndex c k = mapIndex d l → c = d ∧ k = l := by decide +kernel

/-- The whole decode, entry by entry: entry e holds the value of the sub-slot that maps to it, where the response holds that
element whole, and what it held otherwise. -/
theorem decodeElements_get (s : State) (e : BitVec 6) :
    (decodeElements s).buf[e.toNat]'e.isLt =
      if mapIndex s.c (mapInverse e).2 = e ∧ elementPresent s.rlen (mapInverse e).2 = true
      then elementValue s.rbuf (mapInverse e).2 else s.buf[e.toNat]'e.isLt := by
  have hc : ∀ k (t : State), (decodeElement k t).c = t.c := fun k t => by rw [decodeElement_frame]
  have hl : ∀ k (t : State), (decodeElement k t).rlen = t.rlen := fun k t => by rw [decodeElement_frame]
  have hr : ∀ k (t : State), (decodeElement k t).rbuf = t.rbuf := fun k t => by rw [decodeElement_frame]
  unfold decodeElements
  rw [decodeElement_get, decodeElement_get, decodeElement_get, decodeElement_get]
  simp only [hc, hl, hr]
  have key := fun k => mapIndex_eq_iff s.c k e
  generalize (mapInverse e).2 = m at *
  by_cases hm : mapIndex s.c m = e
  · have hk : ∀ k, mapIndex s.c k = e ↔ k = m := fun k => (key k).trans (by simp [hm])
    have four : m = 0#2 ∨ m = 1#2 ∨ m = 2#2 ∨ m = 3#2 := by
      clear key hk hm
      revert m
      decide +kernel
    clear key
    simp only [hk]
    rcases four with rfl | rfl | rfl | rfl <;> simp
  · have hk : ∀ k, ¬ mapIndex s.c k = e := fun k h => hm ((key k).mp h).1
    simp [hk]

/-- The whole decode at the cycle's own entries. -/
theorem decodeElements_get_map (s : State) (k : BitVec 2) :
    (decodeElements s).buf[(mapIndex s.c k).toNat]'(mapIndex s.c k).isLt =
      if elementPresent s.rlen k = true then elementValue s.rbuf k
      else s.buf[(mapIndex s.c k).toNat]'(mapIndex s.c k).isLt := by
  have h := ((mapIndex_eq_iff s.c k _).mp rfl).2
  rw [decodeElements_get, ← h]
  simp

/-- The whole decode elsewhere: another cycle's entry keeps its value. -/
theorem decodeElements_get_other (s : State) (d : BitVec 4) (k : BitVec 2) (h : d ≠ s.c) :
    (decodeElements s).buf[(mapIndex d k).toNat]'(mapIndex d k).isLt =
      s.buf[(mapIndex d k).toNat]'(mapIndex d k).isLt := by
  rw [decodeElements_get, if_neg]
  rintro ⟨h', -⟩
  exact h (mapIndex_inj _ _ _ _ h').1.symm

/-! The two cases of each operation that branches. -/

theorem afterFullRead_of_full {l : List Byte} (h : l.length = 22) (s : State) :
    afterFullRead l s = (s.keepResponse l).goto .cycDec := if_pos h

theorem afterFullRead_of_other {l : List Byte} (h : l.length ≠ 22) (s : State) :
    afterFullRead l s = s.goto .cycRd10 := if_neg h

theorem scanAdvance_last {s : State} (h : s.c = 15#4) : scanAdvance s = (s.setIndex 0#8).goto .frmHdr := if_pos h

theorem scanAdvance_other {s : State} (h : s.c ≠ 15#4) :
    scanAdvance s = (s.setCycle (s.c + 1#4)).goto .cycCmd := if_neg h

theorem cycDec_short {s : State} (h : s.rlen.toNat < 10) : cycDec s = scanAdvance (s.setCycleOk s.c false) := if_pos h

theorem cycDec_enough {s : State} (h : 10 ≤ s.rlen.toNat) :
    cycDec s = scanAdvance ((decodeElements s).setCycleOk s.c true) := if_neg (by omega)

theorem stepField_last {last : Byte} {next : SeqState} {s : State} (h : s.i = last) :
    stepField last next s = (s.setIndex 0#8).goto next := if_pos h

theorem stepField_other {last : Byte} {next : SeqState} {s : State} (h : s.i ≠ last) :
    stepField last next s = s.setIndex (s.i + 1#8) := if_neg h

theorem afterCrc_last {s : State} (h : s.i = 1#8) : afterCrc s = s.goto .idle := if_pos h

theorem afterCrc_other {s : State} (h : s.i ≠ 1#8) : afterCrc s = s.setIndex (s.i + 1#8) := if_neg h

end Sys2Proof.Machine
end

