-- ==== Sys2Proof/Laws/Step.lean ====
section
/-! SUPPORT. What one step is, state by state, and what one step of a run is. -/

namespace Sys2Proof.Machine

theorem step_of_reset {s : State} (h : s.resetOffered = true) : step s = .next s.sampleReset.resetEvent := by
  simp [step, advance, h]

theorem step_of_no_reset {s : State} (h : s.resetOffered = false) : step s = operation s.sampleReset := by
  simp [step, advance, h]

/-- A step is the reset event, or the operation of the state with the reset input looked at. -/
theorem step_cases (s : State) :
    (s.resetOffered = true ∧ step s = .next s.sampleReset.resetEvent) ∨
    (s.resetOffered = false ∧ step s = operation s.sampleReset) := by
  cases h : s.resetOffered
  · exact .inr ⟨rfl, step_of_no_reset h⟩
  · exact .inl ⟨rfl, step_of_reset h⟩

/-- Everything an operation that answers a next state can have done, one case for each way. -/
inductive OperationResult (s : State) : State → Prop
  | waits (hst : s.st = .idle) (hin : s.env.cmdIn = []) : OperationResult s s
  | starts (b : Byte) (rest : List Byte) (hst : s.st = .idle) (hin : s.env.cmdIn = b :: rest)
      (hb : b = 0x72#8 ∨ b = 0x52#8) : OperationResult s (startScan (s.leaveOffered rest))
  | discards (b : Byte) (rest : List Byte) (hst : s.st = .idle) (hin : s.env.cmdIn = b :: rest)
      (hr : b ≠ 0x72#8) (hR : b ≠ 0x52#8) : OperationResult s ((s.leaveOffered rest).goto .idle)
  | scanStarts (hst : s.st = .scanInit) : OperationResult s (scanInit s)
  | requests (hst : s.st = .cycCmd) (a : Bool) (ha : s.writeAnswer = .completes a) :
      OperationResult s
        ((s.dropWriteAnswer.record (.write s.params.busAddr (encode (.readCycle s.c)) true)).goto .cycRd22)
  | readsFull (listed bytes : List Byte) (hst : s.st = .cycRd22) (ha : s.readAnswer = .returns listed)
      (hb : bytes = delivered s.params.respCountMode 22 listed) :
      OperationResult s (afterFullRead bytes (s.dropReadAnswer.record (.read s.params.busAddr 22 bytes.length)))
  | readsFallback (listed bytes : List Byte) (hst : s.st = .cycRd10) (ha : s.readAnswer = .returns listed)
      (hb : bytes = delivered s.params.respCountMode 10 listed) :
      OperationResult s (afterFallbackRead bytes (s.dropReadAnswer.record (.read s.params.busAddr 10 bytes.length)))
  | decodes (hst : s.st = .cycDec) : OperationResult s (cycDec s)
  | fails (hst : s.st.inFrame = true) (ha : s.txAnswer = .failed) : OperationResult s s.dropTxAnswer.raiseFault
  | emitsHeader (hst : s.st = .frmHdr) (ha : s.txAnswer = .accepted) :
      OperationResult s (stepField 3#8 .frmLen (s.dropTxAnswer.emit (headerByte s.i)))
  | emitsLength (hst : s.st = .frmLen) (ha : s.txAnswer = .accepted) :
      OperationResult s (stepField 1#8 .frmSeq (s.dropTxAnswer.emit (lengthByte s.i)))
  | emitsSeq (hst : s.st = .frmSeq) (ha : s.txAnswer = .accepted) :
      OperationResult s (afterSeq (s.dropTxAnswer.emit s.seq))
  | emitsPayload (hst : s.st = .frmPay) (ha : s.txAnswer = .accepted) :
      OperationResult s
        (stepField 127#8 .frmCrc ((s.dropTxAnswer.emit (currentPayloadByte s)).absorb (currentPayloadByte s)))
  | emitsCrc (hst : s.st = .frmCrc) (ha : s.txAnswer = .accepted) :
      OperationResult s (afterCrc (s.dropTxAnswer.emit (crcTrailerByte s.crc s.i)))

theorem idle_next {s t : State} (hst : s.st = .idle) (h : idle s = .next t) : OperationResult s t := by
  unfold idle at h
  cases hin : s.env.cmdIn with
  | nil =>
    simp only [hin, decode, Host.Outcome.next.injEq] at h
    exact h ▸ .waits hst hin
  | cons b rest =>
    simp only [hin, decode, decodeCommand] at h
    by_cases hr : b = 0x72#8
    · simp only [if_pos (show b = trigLower from hr), exec, execScanLower, Host.Outcome.next.injEq] at h
      exact h ▸ .starts b rest hst hin (.inl hr)
    · by_cases hR : b = 0x52#8
      · simp only [if_neg (show ¬ b = trigLower from hr), if_pos (show b = trigUpper from hR), exec, execScanUpper,
          Host.Outcome.next.injEq] at h
        exact h ▸ .starts b rest hst hin (.inr hR)
      · simp only [if_neg (show ¬ b = trigLower from hr), if_neg (show ¬ b = trigUpper from hR), exec, execDiscard,
          Host.Outcome.next.injEq] at h
        exact h ▸ .discards b rest hst hin hr hR

theorem operation_next {s t : State} (h : operation s = .next t) : OperationResult s t := by
  unfold operation at h
  cases hst : s.st <;> simp only [hst] at h
  case idle => exact idle_next hst h
  case scanInit => exact (Host.Outcome.next.inj h) ▸ .scanStarts hst
  case cycCmd =>
    obtain ⟨⟨a, ha⟩, rfl⟩ := busWrite_next h
    exact .requests hst a ha
  case cycRd22 =>
    obtain ⟨listed, ha, rfl⟩ := busRead_next h
    exact .readsFull listed _ hst ha rfl
  case cycRd10 =>
    obtain ⟨listed, ha, rfl⟩ := busRead_next h
    exact .readsFallback listed _ hst ha rfl
  case cycDec => exact (Host.Outcome.next.inj h) ▸ .decodes hst
  case frmHdr =>
    obtain ⟨ha, rfl⟩ | ⟨ha, rfl⟩ := txPut_next h
    · exact .emitsHeader hst ha
    · exact .fails (by rw [hst]; rfl) ha
  case frmLen =>
    obtain ⟨ha, rfl⟩ | ⟨ha, rfl⟩ := txPut_next h
    · exact .emitsLength hst ha
    · exact .fails (by rw [hst]; rfl) ha
  case frmSeq =>
    obtain ⟨ha, rfl⟩ | ⟨ha, rfl⟩ := txPut_next h
    · exact .emitsSeq hst ha
    · exact .fails (by rw [hst]; rfl) ha
  case frmPay =>
    obtain ⟨ha, rfl⟩ | ⟨ha, rfl⟩ := txPut_next h
    · exact .emitsPayload hst ha
    · exact .fails (by rw [hst]; rfl) ha
  case frmCrc =>
    obtain ⟨ha, rfl⟩ | ⟨ha, rfl⟩ := txPut_next h
    · exact .emitsCrc hst ha
    · exact .fails (by rw [hst]; rfl) ha
  case fault => cases h

/-- What a step that answers a next state can have done. -/
theorem step_next {s t : State} (h : step s = .next t) :
    (s.resetOffered = true ∧ t = s.sampleReset.resetEvent) ∨
    (s.resetOffered = false ∧ OperationResult s.sampleReset t) := by
  obtain ⟨hr, e⟩ | ⟨hr, e⟩ := step_cases s
  · rw [e] at h; exact .inl ⟨hr, (Host.Outcome.next.inj h).symm⟩
  · rw [e] at h; exact .inr ⟨hr, operation_next h⟩

/-- The run of the claims is the run of the host's interface. -/
theorem core_run_eq (n : Nat) (s : State) : core.run n s = runSteps n s := by
  induction n generalizing s with
  | zero => rfl
  | succ n ih =>
    cases h : step s with
    | next t => simp only [Host.Core.run, runSteps, h, show core.step s = .next t from h]; exact ih t
    | fault f => simp only [Host.Core.run, runSteps, h, show core.step s = .fault f from h]; rfl
    | refused r => simp only [Host.Core.run, runSteps, h, show core.step s = .refused r from h]; rfl

@[simp] theorem runSteps_zero (s : State) : runSteps 0 s = .next s := rfl

/-- The first step of a run, peeled off. -/
theorem runSteps_succ {n : Nat} {s t : State} (h : step s = .next t) : runSteps (n + 1) s = runSteps n t := by
  simp [runSteps, h]

/-- Runs compose. -/
theorem runSteps_add {m n : Nat} {s t : State} (h : runSteps m s = .next t) : runSteps (m + n) s = runSteps n t := by
  induction m generalizing s with
  | zero =>
    have e : s = t := by simpa using h
    rw [e, Nat.zero_add]
  | succ m ih =>
    rw [Nat.add_right_comm]
    simp only [runSteps] at h ⊢
    split at h
    · exact ih h
    · cases h
    · cases h

end Sys2Proof.Machine
end

