-- ==== Sys2Proof/Laws/Env.lean ====
section
/-! SUPPORT. What an environment that does its duty gives a step, and that it goes on doing it (60_exceptions.md R234). -/

namespace Sys2Proof.Machine

theorem Env.noReset.notOffered {s : State} (h : s.env.noReset) : s.resetOffered = false := by
  unfold State.resetOffered
  cases hl : s.env.resetIn with
  | nil => rfl
  | cons b l => exact h b (by simp [hl])

theorem Env.noReset.of_tail {e e' : Env} (h : e.noReset) (ht : e'.resetIn = e.resetIn.tail) : e'.noReset :=
  fun b hb => h b (List.mem_of_mem_tail (ht ▸ hb))

theorem Env.outputAccepted.answer {s : State} (h : s.env.outputAccepted) : s.txAnswer = .accepted := by
  unfold State.txAnswer
  cases hl : s.env.txPort with
  | nil => rfl
  | cons a l => exact h a (by simp [hl])

theorem Env.outputAccepted.of_tail {e e' : Env} (h : e.outputAccepted) (ht : e'.txPort = e.txPort.tail) :
    e'.outputAccepted :=
  fun a ha => h a (List.mem_of_mem_tail (ht ▸ ha))

theorem Env.busCompletes.write {s : State} (h : s.env.busCompletes) : ∃ a, s.writeAnswer = .completes a := by
  unfold State.writeAnswer
  cases hl : s.env.busWr with
  | nil => exact ⟨_, rfl⟩
  | cons w l =>
    cases w with
    | completes a => exact ⟨a, rfl⟩
    | neverCompletes => exact absurd rfl (h.2 .neverCompletes (by simp [hl]))

/-- A read of a bus that completes delivers what the scan function says. -/
theorem Env.busCompletes.read {s : State} (h : s.env.busCompletes) :
    ∃ listed, s.readAnswer = .returns listed ∧
      ∀ n, delivered s.params.respCountMode n listed = nextBytes s.params.respCountMode n s.env.busRd := by
  unfold State.readAnswer nextBytes
  cases hl : s.env.busRd with
  | nil => exact ⟨_, rfl, fun _ => rfl⟩
  | cons a l =>
    cases a with
    | returns b => exact ⟨b, rfl, fun _ => rfl⟩
    | neverCompletes => exact absurd rfl (h.1 .neverCompletes (by simp [hl]))

theorem Env.busCompletes.of_tail {e e' : Env} (h : e.busCompletes)
    (hr : e'.busRd = e.busRd ∨ e'.busRd = e.busRd.tail) (hw : e'.busWr = e.busWr ∨ e'.busWr = e.busWr.tail) :
    e'.busCompletes := by
  refine ⟨fun a ha => h.1 a ?_, fun a ha => h.2 a ?_⟩
  · rcases hr with e | e <;> rw [e] at ha
    · exact ha
    · exact List.mem_of_mem_tail ha
  · rcases hw with e | e <;> rw [e] at ha
    · exact ha
    · exact List.mem_of_mem_tail ha

/-- The answers left after one cycle more. -/
theorem answersBefore_succ (m : RespCountMode) (j : Nat) (l : List ReadAnswer) :
    answersBefore m (j + 1) l = answersAfterCycle m (answersBefore m j l) := by
  induction j generalizing l with
  | zero => rfl
  | succ j ih => rw [answersBefore, ih]; rfl

end Sys2Proof.Machine
end

