-- ==== Sys2Proof/Laws/PerInstr.lean ====
section
/-! SUPPORT. Statements made for each constructor of Instr. -/

namespace Sys2Proof.Laws.EncodedLength

/-- An instruction's encoding has the length of its format: 1 byte on the command input, 3 in a bus request
(30_encoding.md R70). -/
def Statement (i : Instr) : Prop :=
  (encode i).length = match i.format with
    | .cmd => 1
    | .busreq => 3

theorem scanLower : Statement .scanLower := rfl
theorem scanUpper : Statement .scanUpper := rfl
theorem discard (b : Byte) : Statement (.discard b) := rfl
theorem readCycle (c : BitVec 4) : Statement (.readCycle c) := rfl

end Sys2Proof.Laws.EncodedLength
end

