-- ==== Sys2Proof/Tests/Slice0.lean ====
section
/-! SUPPORT. Tests with expected values written out from the spec (its rules and 95_test_vectors.md), and for each statement that
has hypotheses a state and operands that meet them together. -/

namespace Sys2Proof.Machine.Tests

/-- What holds of the next state an outcome answers; false of a stop. -/
def after (o : Host.Outcome State Fault Refusal) (p : State → Bool) : Bool :=
  match o with
  | .next t => p t
  | _ => false

/-- The stop of an outcome. -/
def stops (o : Host.Outcome State Fault Refusal) (f : Fault) : Bool :=
  match o with
  | .fault g => g == f
  | _ => false

/-- A block in state `st`, at index `i` and cycle `c`, everything else as after reset, with a bus address of its own. -/
def at_ (st : SeqState) (i : Byte) (c : BitVec 4) : State :=
  { State.reset with st := st, i := i, c := c, params := { busAddr := 0x28, respCountMode := .bounded, hasCycleStatus := true } }

/-- `s` with a command input, answers of the bus, of the output port and of the reset input. -/
def withEnv (s : State) (cmds : List Byte) (rd : List ReadAnswer) (tx : List TxAnswer) (rst : List Bool) : State :=
  { s with env := { s.env with cmdIn := cmds, busRd := rd, txPort := tx, resetIn := rst } }

/-- The 22-byte response of 95_test_vectors.md program P2, cycle 0. -/
def fullP2 : List Byte :=
  [0xEE#8, 0xEE#8, 0xEE#8, 0xEE#8, 0xEE#8, 0xEE#8, 0xEE#8, 0xEE#8, 0x34#8, 0x12#8, 0xEE#8,
   0xEE#8, 0xCD#8, 0xAB#8, 0xEE#8, 0xEE#8, 0x01#8, 0x00#8, 0xEE#8, 0xEE#8, 0xFF#8, 0xFF#8]

/-- A block in CYC_DEC holding that response as one of `rlen` bytes. -/
def holding (rlen : Byte) (c : BitVec 4) : State :=
  { at_ .cycDec 0#8 c with rlen := rlen, rbuf := Vector.ofFn fun j : Fin 22 => fullP2.getD j.val 0#8 }

/-! Well-formedness: the ill-formed terms are refused. -/

theorem test_wf_refuses_discard_of_r : (Instr.discard 0x72#8).wf = false := by decide
theorem test_wf_refuses_discard_of_R : (Instr.discard 0x52#8).wf = false := by decide
theorem test_wf_accepts_discard_of_x : (Instr.discard 0x78#8).wf = true := by decide

/-! Decoding: words written out bit by bit from 30_encoding.md R71, R72 and the opcode table. -/

theorem test_decode_scan_r : decode .cmd [0b01110010#8] = .ok .scanLower [] := by decide
theorem test_decode_scan_R : decode .cmd [0b01010010#8] = .ok .scanUpper [] := by decide
theorem test_decode_discard_bit7 : decode .cmd [0b11110010#8] = .ok (.discard 0xF2#8) [] := by decide
theorem test_decode_read_cycle_5 :
    decode .busreq [0b00000001#8, 0b00000000#8, 0b00000101#8] = .ok (.readCycle 5#4) [] := by decide
theorem test_decode_refuses_cycle_bits : decode .busreq [0x01#8, 0x00#8, 0x10#8] = .rejected .badCycleByte := by decide
theorem test_decode_refuses_command_code : decode .busreq [0x02#8, 0x00#8, 0x00#8] = .rejected .badCommandCode := by decide
theorem test_decode_refuses_sensor_id : decode .busreq [0x01#8, 0x01#8, 0x00#8] = .rejected .badSensorId := by decide
theorem test_decode_refuses_short_request : decode .busreq [0x01#8, 0x00#8] = .rejected .truncated := by decide

/-! The first step after reset on a word of each row (45_command_dispatch.md R210 to R213, 42_cycle_reader.md R131). -/

theorem test_step_scan_r :
    after (step (State.reset.withFetchWord 8 0x72)) (fun t => t.st == .scanInit && t.env.cmdIn == []) = true := by decide
theorem test_step_scan_R :
    after (step (State.reset.withFetchWord 8 0x52)) (fun t => t.st == .scanInit && t.env.cmdIn == []) = true := by decide
theorem test_step_discard :
    after (step (State.reset.withFetchWord 8 0x0A)) (fun t => t.st == .idle && t.env.cmdIn == [] && t.env.txOut == []) =
      true := by decide
theorem test_step_read_cycle_15 :
    after (step ((at_ .idle 0#8 0#4).withFetchWord 24 0x01000F)) (fun t => t.st == .cycRd22 &&
      t.env.busLog == [.write 0x28 [0x01#8, 0x00#8, 0x0F#8] true]) = true := by decide

/-! The CRC engine (95_test_vectors.md CRC-1, CRC-3, CRC-5, CRC-11). -/

theorem test_crc_shift_top_set : crcShift1 0xFFFF#16 = 0xEFDF#16 := by decide
theorem test_crc_shift_top_clear : crcShift1 0x7FFF#16 = 0xFFFE#16 := by decide
theorem test_crc_byte_FF : crcByte 0xFFFF#16 0xFF#8 = 0xFF00#16 := by decide +kernel
theorem test_crc_check_string :
    crc16 [0x31#8, 0x32#8, 0x33#8, 0x34#8, 0x35#8, 0x36#8, 0x37#8, 0x38#8, 0x39#8] = 0x29B1#16 := by decide +kernel

/-! The index mapper (95_test_vectors.md MAP-5, MAP-7, MAP-8). -/

theorem test_map_5_2 : mapIndex 5#4 2#2 = 21#6 := by decide
theorem test_map_15_3 : mapIndex 15#4 3#2 = 63#6 := by decide
theorem test_map_inverse_21 : mapInverse 21#6 = (5#4, 2#2) := by decide

/-! The cycle reader (95_test_vectors.md P2 cycle 0, CYC-4, CYC-6, CYC-10). -/

theorem test_full_read_is_kept :
    after (step (withEnv (at_ .cycRd22 0#8 0#4) [] [.returns fullP2] [] [])) (fun t => t.st == .cycDec && t.rlen == 22#8 &&
      t.rbuf[9] == 0x12#8 && t.env.busLog == [.read 0x28 22 22]) = true := by decide +kernel
theorem test_read_of_21_falls_back :
    after (step (withEnv (at_ .cycRd22 0#8 0#4) [] [.returns (fullP2.take 21)] [] [])) (fun t => t.st == .cycRd10 &&
      t.rlen == 0#8 && t.env.busRd == []) = true := by decide +kernel
theorem test_fallback_of_9_is_kept :
    after (step (withEnv (at_ .cycRd10 0#8 0#4) [] [.returns (fullP2.take 9)] [] [])) (fun t => t.st == .cycDec &&
      t.rlen == 9#8 && t.rbuf[8] == 0x34#8 && t.env.busLog == [.read 0x28 10 9]) = true := by decide +kernel
theorem test_decode_full_response :
    after (step (holding 22#8 0#4)) (fun t => t.buf[0] == 0x1234#16 && t.buf[2] == 0xABCD#16 && t.buf[4] == 0x0001#16 &&
      t.buf[6] == 0xFFFF#16 && t.buf[1] == 0#16 && t.cycleOk == 1#16 && t.c == 1#4 && t.st == .cycCmd) = true := by
  decide +kernel
theorem test_decode_21_leaves_the_last :
    after (step (holding 21#8 15#4)) (fun t => t.buf[57] == 0x1234#16 && t.buf[61] == 0x0001#16 && t.buf[63] == 0#16 &&
      t.cycleOk == 0x8000#16 && t.c == 15#4 && t.st == .frmHdr) = true := by decide +kernel
theorem test_decode_9_abandons :
    after (step { holding 9#8 2#4 with cycleOk := 0x0007#16 }) (fun t => t.buf[8] == 0#16 && t.cycleOk == 0x0003#16 &&
      t.st == .cycCmd) = true := by decide +kernel

/-! The frame encoder (44_frame_encoder.md R180 to R184; 95_test_vectors.md CRC-27). -/

theorem test_header_last_byte :
    after (step (at_ .frmHdr 3#8 0#4)) (fun t => t.env.txOut == [0x34#8] && t.st == .frmLen && t.i == 0#8) = true := by decide
theorem test_length_first_byte :
    after (step (at_ .frmLen 0#8 0#4)) (fun t => t.env.txOut == [0x80#8] && t.st == .frmLen && t.i == 1#8) = true := by decide
theorem test_seq_wraps_and_latches :
    after (step { at_ .frmSeq 0#8 0#4 with seq := 0xFF#8 }) (fun t => t.env.txOut == [0xFF#8] && t.seq == 0#8 &&
      t.fseq == 0xFF#8 && t.crc == 0x1867#16 && t.st == .frmPay) = true := by decide +kernel
theorem test_payload_odd_byte :
    after (step { at_ .frmPay 1#8 0#4 with buf := Vector.replicate 64 0x1234#16, crc := 0#16 }) (fun t =>
      t.env.txOut == [0x12#8] && t.i == 2#8 && t.st == .frmPay) = true := by decide +kernel
theorem test_crc_trailer_ends_the_frame :
    after (step { at_ .frmCrc 1#8 0#4 with crc := 0xFC2A#16 }) (fun t => t.env.txOut == [0xFC#8] && t.st == .idle) = true := by
  decide

/-! Scan start, faults, stalls, reset (43_scan_aggregator.md R160; 60_exceptions.md R222 to R224; 70_reset_and_hazards.md R240). -/

theorem test_scan_init_clears :
    after (step { at_ .scanInit 0#8 9#4 with cycleOk := 0xFFFF#16, buf := Vector.replicate 64 7#16 }) (fun t =>
      t.buf[5] == 0#16 && t.cycleOk == 0#16 && t.c == 0#4 && t.st == .cycCmd) = true := by decide +kernel
theorem test_output_failure :
    after (step (withEnv (at_ .frmSeq 0#8 0#4) [] [] [.failed] [])) (fun t => t.st == .fault && t.seq == 0#8 &&
      t.env.txOut == []) = true := by decide
theorem test_fault_is_terminal : stops (step (at_ .fault 0#8 0#4)) .txPortFailure = true := by decide
theorem test_bus_stall :
    stops (step (withEnv (at_ .cycRd10 0#8 0#4) [] [.neverCompletes] [] [])) .busStall = true := by decide
theorem test_output_stall :
    stops (step (withEnv (at_ .frmPay 0#8 0#4) [] [] [.neverAccepted] [])) .outputStall = true := by decide
theorem test_reset_leaves_fault :
    after (step (withEnv { at_ .fault 0#8 0#4 with seq := 6#8 } [0x72#8] [] [] [true])) (fun t => t.st == .idle &&
      t.seq == 0#8 && t.cycleOk == 0#16 && t.env.cmdIn == [0x72#8]) = true := by decide
theorem test_idle_without_a_byte :
    after (step (at_ .idle 0#8 0#4)) (fun t => t == at_ .idle 0#8 0#4) = true := by decide +kernel

/-! Witnesses: for each statement with hypotheses, operands that meet them together. -/

theorem witness_DecodeOfEncode : (Instr.discard 0xFF#8).wf = true ∧ (Instr.readCycle 15#4).wf = true := by decide
theorem witness_EncodeOfDecode :
    decode .busreq [0x01#8, 0x00#8, 0x0F#8, 0xAA#8] = .ok (.readCycle 15#4) [0xAA#8] ∧
      decode .cmd [0x73#8] = .ok (.discard 0x73#8) [] := by decide
theorem witness_StepRunsTheTakenCommand :
    let s := withEnv (at_ .idle 0#8 0#4) [0x72#8, 0x52#8] [] [] [false, true]
    s.resetOffered = false ∧ s.st = .idle ∧ decode .cmd s.env.cmdIn = .ok .scanLower [0x52#8] := by decide
theorem witness_StepRunsTheBuiltRequest : (at_ .cycCmd 0#8 15#4).resetOffered = false ∧ (at_ .cycCmd 0#8 15#4).st = .cycCmd := by
  decide
theorem witness_DiscardConsumesTheByteOnly :
    let s := withEnv (at_ .idle 0#8 0#4) [0x73#8] [] [] []
    s.resetOffered = false ∧ s.st = .idle ∧ s.env.cmdIn = 0x73#8 :: [] ∧ (0x73#8 : Byte) ≠ 0x72#8 ∧ (0x73#8 : Byte) ≠ 0x52#8 := by
  decide
theorem witness_RequestIsOneHeldBusWrite :
    (at_ .cycCmd 0#8 0#4).writeAnswer = .completes true ∧
      ({ at_ .cycCmd 0#8 0#4 with env := { Env.start with busWr := [.completes false] } } : State).writeAnswer =
        .completes false := by decide
theorem witness_CrcShiftTestsTheTopBit :
    (0x8000#16 : Word).getLsbD 15 = true ∧ (0x7FFF#16 : Word).getLsbD 15 = false := by decide
theorem witness_SingleByteErrorsAreDetected : (0x00#8 : Byte) ≠ 0x01#8 := by decide
theorem witness_AnswersCoverTheSpecRange : fullP2.length ≤ 22 ∧ fullP2.length ≤ 255 := by decide
theorem witness_ScanInitClears : (at_ .scanInit 0#8 9#4).resetOffered = false ∧ (at_ .scanInit 0#8 9#4).st = .scanInit := by decide
theorem witness_FullReadKeepsExactly22Bytes_full :
    let s := withEnv (at_ .cycRd22 0#8 0#4) [] [.returns fullP2] [] []
    s.resetOffered = false ∧ s.st = .cycRd22 ∧ s.readAnswer = .returns fullP2 ∧
      fullP2.length ≤ (if s.params.respCountMode = .bounded then 22 else 255) ∧ fullP2.length = 22 := by decide
theorem witness_FullReadKeepsExactly22Bytes_short :
    let s := withEnv (at_ .cycRd22 0#8 0#4) [] [.returns (fullP2.take 21)] [] []
    s.resetOffered = false ∧ s.st = .cycRd22 ∧ s.readAnswer = .returns (fullP2.take 21) ∧
      (fullP2.take 21).length ≤ (if s.params.respCountMode = .bounded then 22 else 255) ∧ (fullP2.take 21).length ≠ 22 := by
  decide
theorem witness_FallbackReadKeepsWhatCame :
    let s := withEnv (at_ .cycRd10 0#8 0#4) [] [.returns (fullP2.take 10)] [] []
    s.resetOffered = false ∧ s.st = .cycRd10 ∧ s.readAnswer = .returns (fullP2.take 10) ∧
      (fullP2.take 10).length ≤ (if s.params.respCountMode = .bounded then 10 else 255) := by decide
theorem witness_ShortResponseAbandonsTheCycle :
    (holding 9#8 15#4).resetOffered = false ∧ (holding 9#8 15#4).st = .cycDec ∧ (holding 9#8 15#4).rlen.toNat < 10 ∧
      (holding 9#8 15#4).params.hasCycleStatus = true := by decide
theorem witness_DecodeWritesTheElementsPresent :
    (holding 10#8 0#4).resetOffered = false ∧ (holding 10#8 0#4).st = .cycDec ∧ 10 ≤ (holding 10#8 0#4).rlen.toNat ∧
      (holding 10#8 0#4).params.hasCycleStatus = true := by decide

/-- A build without the status output. -/
def noStatus (s : State) : State := { s with params := { s.params with hasCycleStatus := false } }

theorem witness_withoutStatus :
    (noStatus (holding 9#8 0#4)).params.hasCycleStatus = false ∧ (noStatus (holding 9#8 0#4)).rlen.toNat < 10 ∧
      (noStatus (holding 22#8 15#4)).params.hasCycleStatus = false ∧ 10 ≤ (noStatus (holding 22#8 15#4)).rlen.toNat := by decide
theorem witness_HeaderStepEmitsItsByte :
    let s := at_ .frmHdr 3#8 0#4
    s.resetOffered = false ∧ s.st = .frmHdr ∧ s.i.toNat ≤ 3 ∧ s.txAnswer = .accepted := by decide
theorem witness_LengthStepEmitsItsByte :
    let s := at_ .frmLen 1#8 0#4
    s.resetOffered = false ∧ s.st = .frmLen ∧ s.i.toNat ≤ 1 ∧ s.txAnswer = .accepted := by decide
theorem witness_SequenceStepEmitsAndAdvances :
    let s := at_ .frmSeq 0#8 0#4
    s.resetOffered = false ∧ s.st = .frmSeq ∧ s.txAnswer = .accepted := by decide
theorem witness_PayloadStepEmitsItsByte :
    let s := at_ .frmPay 127#8 0#4
    s.resetOffered = false ∧ s.st = .frmPay ∧ s.i.toNat ≤ 127 ∧ s.txAnswer = .accepted := by decide
theorem witness_CrcStepEmitsItsByte :
    let s := at_ .frmCrc 0#8 0#4
    let u := at_ .frmCrc 1#8 0#4
    (s.resetOffered = false ∧ s.st = .frmCrc ∧ s.txAnswer = .accepted ∧ s.i = 0#8) ∧
      (u.resetOffered = false ∧ u.st = .frmCrc ∧ u.txAnswer = .accepted ∧ u.i = 1#8) := by decide
theorem witness_QuiescentIsFinal :
    (at_ .idle 0#8 0#4).st = .idle ∧ (at_ .idle 0#8 0#4).env.cmdIn = [] ∧ (at_ .idle 0#8 0#4).env.resetIn = [] := by decide
theorem witness_OutputFailureIsTerminal :
    let s := withEnv (at_ .frmPay 9#8 0#4) [] [] [.failed] []
    let u := withEnv (at_ .fault 0#8 0#4) [] [] [] [true]
    (s.resetOffered = false ∧ s.st.inFrame = true ∧ s.txAnswer = .failed) ∧
      ((at_ .fault 0#8 0#4).st = .fault ∧ (at_ .fault 0#8 0#4).resetOffered = false) ∧
      (u.st = .fault ∧ u.resetOffered = true) := by decide
theorem witness_FailedPutChangesOnlySt :
    let s := withEnv (at_ .frmSeq 0#8 0#4) [] [] [.failed] []
    s.resetOffered = false ∧ s.st.inFrame = true ∧ s.txAnswer = .failed := by decide
theorem witness_StalledPortsStopTheBlock :
    let s : State := { at_ .cycCmd 0#8 0#4 with env := { Env.start with busWr := [.neverCompletes] } }
    let u := withEnv (at_ .cycRd22 0#8 0#4) [] [.neverCompletes] [] []
    let v := withEnv (at_ .frmCrc 1#8 0#4) [] [] [.neverAccepted] []
    (s.resetOffered = false ∧ s.st = .cycCmd ∧ s.writeAnswer = .neverCompletes) ∧
      (u.resetOffered = false ∧ (u.st = .cycRd22 ∨ u.st = .cycRd10) ∧ u.readAnswer = .neverCompletes) ∧
      (v.resetOffered = false ∧ v.st.inFrame = true ∧ v.txAnswer = .neverAccepted) := by decide
/-- A stop of each of the three names. -/
theorem witness_EveryStopIsOneOfThree :
    stops (step (at_ .fault 0#8 0#4)) .txPortFailure = true ∧
      stops (step (withEnv (at_ .cycRd22 0#8 0#4) [] [.neverCompletes] [] [])) .busStall = true ∧
      stops (step (withEnv (at_ .frmHdr 0#8 0#4) [] [] [.neverAccepted] [])) .outputStall = true := by decide
theorem witness_ResetFromAnyState : (withEnv (at_ .frmPay 5#8 3#4) [0x72#8] [] [] [true]).resetOffered = true := by decide
theorem witness_BusyIsNotIdle :
    (at_ .fault 0#8 0#4).st ≠ .idle ∧ (at_ .idle 0#8 0#4).st = .idle ∧
      (withEnv (at_ .frmPay 0#8 0#4) [] [] [] [true]).resetOffered = true ∧
      after (step (withEnv (at_ .frmPay 0#8 0#4) [] [] [] [true])) (fun _ => true) = true := by decide

/-- For the statements whose hypothesis is a step to a next state, with and without a reset. -/
theorem witness_CounterAdvancesOnlyInFrmSeq :
    (∃ t, step (at_ .frmSeq 0#8 0#4) = .next t) ∧
      (∃ t, step (withEnv (at_ .frmSeq 0#8 0#4) [] [] [] [true]) = .next t) ∧
      (∃ t, step (at_ .frmHdr 0#8 0#4) = .next t) := ⟨⟨_, rfl⟩, ⟨_, rfl⟩, ⟨_, rfl⟩⟩
theorem witness_BufferIsWrittenByTwoStepsOnly :
    ((at_ .frmPay 0#8 0#4).resetOffered = false ∧ (∃ t, step (at_ .frmPay 0#8 0#4) = .next t)) ∧
      ((holding 10#8 0#4).resetOffered = false ∧ (holding 10#8 0#4).st = .cycDec ∧ (∃ t, step (holding 10#8 0#4) = .next t) ∧
        ∀ k : BitVec 2, (mapIndex (holding 10#8 0#4).c k).toNat = 2 → (holding 10#8 0#4).rlen.toNat < 10 + 4 * k.toNat) :=
  ⟨⟨rfl, ⟨_, rfl⟩⟩, rfl, rfl, ⟨_, rfl⟩, by decide⟩
theorem witness_CommandInputIsReadInIdleOnly :
    (∃ t, step (withEnv (at_ .idle 0#8 0#4) [0x72#8] [] [] []) = .next t) ∧
      (∃ t, step (withEnv (at_ .frmHdr 0#8 0#4) [0x72#8] [] [] []) = .next t) := ⟨⟨_, rfl⟩, ⟨_, rfl⟩⟩
theorem witness_AtMostOnePortEventAStep : ∃ t, step (at_ .cycCmd 0#8 0#4) = .next t := ⟨_, rfl⟩
theorem witness_ParametersAreFixed : ∃ t, step (withEnv (at_ .frmPay 0#8 0#4) [] [] [] [true]) = .next t := ⟨_, rfl⟩
theorem witness_ReaderAndEncoderKeepApart :
    ((at_ .cycCmd 0#8 0#4).resetOffered = false ∧ (∃ t, step (at_ .cycCmd 0#8 0#4) = .next t) ∧
      (at_ .cycCmd 0#8 0#4).st.inCycle = true) ∧
    ((at_ .frmSeq 0#8 0#4).resetOffered = false ∧ (∃ t, step (at_ .frmSeq 0#8 0#4) = .next t) ∧
      (at_ .frmSeq 0#8 0#4).st.inFrame = true) := ⟨⟨rfl, ⟨_, rfl⟩, rfl⟩, rfl, ⟨_, rfl⟩, rfl⟩

/-- A block about to emit the last byte of the frame of sequence value 0 and buffer `buf`. -/
def lastByte (buf : Vector Word 64) : State :=
  { at_ .frmCrc 1#8 15#4 with
    seq := 1#8
    buf := buf
    crc := crc16 (crcInput 0#8 buf)
    env := { Env.start with txOut := (frameBytes 0#8 buf).take 136 } }

theorem lastByte_inv (buf : Vector Word 64) : (lastByte buf).FrameInv where
  index := by simp [State.indexInRange, lastByte, at_]
  emitted := by
    intro n hn
    have : 136 = n := by simpa [State.framePosition, lastByte, at_] using hn
    subst this
    exact ⟨[], (List.nil_append _).symm⟩
  crcPayload := by simp [lastByte, at_]
  crcTrailer := by simp [lastByte, at_, State.reset]
  latched := by simp [lastByte, at_, State.reset]

theorem witness_EveryStepKeepsTheFrameInvariant : ∃ s : State, s.FrameInv ∧ ∃ t, step s = .next t :=
  ⟨lastByte (Vector.replicate 64 0#16), lastByte_inv _, ⟨_, rfl⟩⟩
theorem witness_TheLastByteCompletesTheFrame :
    ∃ s : State, s.FrameInv ∧ s.resetOffered = false ∧ s.st = .frmCrc ∧ ∃ t, step s = .next t ∧ t.st = .idle :=
  ⟨lastByte (Vector.replicate 64 0x1234#16), lastByte_inv _, rfl, rfl, ⟨_, rfl, rfl⟩⟩

theorem zero_scan_inv (st : SeqState) (c : BitVec 4) : (at_ st 0#8 c).ScanInv where
  pendingZero := by intro _ j _ k; simp [at_, State.reset]
  pendingStatus := by intro _ _ j _; simp [at_, State.reset]
  abandonedZero := by intro _ _ j _ k; simp [at_, State.reset]
  keptLength := by intro _ _; right; simp [at_, State.reset]

theorem witness_EveryStepKeepsTheScanInvariant :
    (at_ .cycDec 0#8 15#4).ScanInv ∧ ∃ t, step (at_ .cycDec 0#8 15#4) = .next t := ⟨zero_scan_inv _ _, ⟨_, rfl⟩⟩

/-- Two states that differ in an element not to be read, and agree. -/
theorem witness_UnspecifiedValuesAreUnobservable :
    (at_ .scanInit 0#8 0#4).Agree { at_ .scanInit 0#8 0#4 with crc := 7#16, rlen := 9#8, c := 3#4 } := by
  constructor <;> simp [at_, SeqState.inCycle, SeqState.inFrame]
theorem witness_IdleRunsDoNotDependOnUnspecifiedValues : State.reset.st = .idle := rfl

theorem env_start_does_its_duty : Env.start.noReset ∧ Env.start.busCompletes ∧ Env.start.outputAccepted := by
  refine ⟨?_, ⟨?_, ?_⟩, ?_⟩ <;> intro a ha <;> cases ha
theorem witness_AFrameTakes137Steps :
    (at_ .frmHdr 0#8 15#4).st = .frmHdr ∧ (at_ .frmHdr 0#8 15#4).i = 0#8 ∧ (at_ .frmHdr 0#8 15#4).env.noReset ∧
      (at_ .frmHdr 0#8 15#4).env.outputAccepted := ⟨rfl, rfl, env_start_does_its_duty.1, env_start_does_its_duty.2.2⟩
theorem witness_AScanCollectsEveryCycle :
    (at_ .scanInit 0#8 0#4).st = .scanInit ∧ (at_ .scanInit 0#8 0#4).env.noReset ∧
      (at_ .scanInit 0#8 0#4).env.busCompletes ∧ (at_ .scanInit 0#8 0#4).params.hasCycleStatus = true :=
  ⟨rfl, env_start_does_its_duty.1, env_start_does_its_duty.2.1, rfl⟩

/-- A quiescent block that is offered an 'x' and an 'r' (95_test_vectors.md P2 with 'r'), and whose target answers the first read
with 9 bytes. -/
def offered (cmds : List Byte) : State := withEnv (at_ .idle 0#8 0#4) cmds [.returns (fullP2.take 9)] [] [false]

theorem offered_does_its_duty (cmds : List Byte) :
    (offered cmds).env.noReset ∧ (offered cmds).env.busCompletes ∧ (offered cmds).env.outputAccepted := by
  refine ⟨?_, ⟨?_, ?_⟩, ?_⟩ <;> intro a ha <;> simp_all [offered, withEnv, at_, State.reset, Env.start]
theorem witness_OneTriggerOneScanOneFrame :
    (offered [0x52#8]).st = .idle ∧ (offered [0x52#8]).env.cmdIn = 0x52#8 :: [] ∧
      ((0x52#8 : Byte) = 0x72#8 ∨ (0x52#8 : Byte) = 0x52#8) ∧ (offered [0x52#8]).env.noReset ∧
      (offered [0x52#8]).env.busCompletes ∧ (offered [0x52#8]).env.outputAccepted :=
  ⟨rfl, rfl, .inr rfl, offered_does_its_duty _⟩
theorem witness_EveryTriggerGetsItsNumberedFrame :
    (offered [0x78#8, 0x72#8]).st = .idle ∧ (offered [0x78#8, 0x72#8]).env.noReset ∧
      (offered [0x78#8, 0x72#8]).env.busCompletes ∧ (offered [0x78#8, 0x72#8]).env.outputAccepted :=
  ⟨rfl, offered_does_its_duty _⟩
theorem witness_NoResponseGivesAZeroFrame :
    let s := offered [0x72#8]
    (s.st = .idle ∧ s.env.cmdIn = 0x72#8 :: [] ∧ ((0x72#8 : Byte) = 0x72#8 ∨ (0x72#8 : Byte) = 0x52#8)) ∧
      (s.env.noReset ∧ s.env.busCompletes ∧ s.env.outputAccepted) ∧
      (∀ c : BitVec 4, (scanResponse s.params.respCountMode s.env.busRd c.toNat).length < 10) :=
  ⟨⟨rfl, rfl, .inl rfl⟩, offered_does_its_duty _, by decide⟩

end Sys2Proof.Machine.Tests
end

section
/-! SUPPORT. Proofs of the family 10_state: the lemmas about single operations that more than one of them uses. -/

namespace Sys2Proof.Machine

variable (s : State)

/-! The sequencer state after each operation that branches. -/

@[simp] theorem stepField_st (last : Byte) (next : SeqState) :
    (stepField last next s).st = if s.i = last then next else s.st := by
  unfold stepField; split <;> rfl

@[simp] theorem afterCrc_st : (afterCrc s).st = if s.i = 1#8 then .idle else s.st := by
  unfold afterCrc; split <;> rfl

@[simp] theorem afterFullRead_st (l : List Byte) :
    (afterFullRead l s).st = if l.length = 22 then .cycDec else .cycRd10 := by
  unfold afterFullRead reqFull; split <;> rfl

@[simp] theorem afterFallbackRead_st (l : List Byte) : (afterFallbackRead l s).st = .cycDec := rfl

@[simp] theorem afterFallbackRead_rlen (l : List Byte) :
    (afterFallbackRead l s).rlen = BitVec.ofNat 8 (min l.length 255) := rfl

/-- The states of the frame encoder are none of the cycle reader. -/
theorem SeqState.not_inCycle_of_inFrame {u : SeqState} (h : u.inFrame = true) : u.inCycle = false := by
  cases u with
  | frmHdr | frmLen | frmSeq | frmPay | frmCrc => rfl
  | _ => cases h

end Sys2Proof.Machine
end

section
/-! PROOFS of the family 10_state: the status output `busy`, the parameters and the port events of a step. -/

namespace Sys2Proof.Machine

/-- Settles O36: each of the four is the value `State.reset` writes out. -/
theorem resetStateHoldsTheStatedValues : Obligations.ResetStateHoldsTheStatedValues :=
  ⟨rfl, rfl, rfl, rfl⟩

theorem State.busy_eq_true_iff (s : State) : s.busy = true ↔ s.st ≠ .idle := by simp [State.busy]

theorem State.busy_of_idle {s : State} (h : s.st = .idle) : s.busy = false := by simp [State.busy, h]

/-- Settles O37: a reset event leads to IDLE, and `busy` is a function of `st`. -/
theorem busyIsNotIdle : Obligations.BusyIsNotIdle := by
  refine ⟨fun s => ⟨s.busy_eq_true_iff.mpr, State.busy_of_idle⟩, fun s t hr h => ?_, State.busy_of_idle rfl⟩
  obtain rfl : s.sampleReset.resetEvent = t := Host.Outcome.next.inj ((step_of_reset hr).symm.trans h)
  exact State.busy_of_idle (State.resetEvent_st _)

/-- No operation writes a parameter: by the frame law of each (Laws/Frames). -/
theorem OperationResult.params_eq {s t : State} (h : OperationResult s t) : t.params = s.params := by
  cases h <;> simp

/-- Settles O42: neither the reset event nor any operation writes `params`. -/
theorem parametersAreFixed : Obligations.ParametersAreFixed := by
  intro s t h
  obtain ⟨-, rfl⟩ | ⟨-, hop⟩ := step_next h
  · simp
  · exact hop.params_eq

/-- What O41 says of a step from `s` to `t`: at most one port event, of a kind that `s.st` allows. -/
def AtMostOnePortEvent (s t : State) : Prop :=
  ∃ (taken out : List Byte) (issued : List BusEvent),
    s.env.cmdIn = taken ++ t.env.cmdIn ∧ t.env.txOut = s.env.txOut ++ out ∧ t.env.busLog = s.env.busLog ++ issued ∧
    taken.length + out.length + issued.length ≤ 1 ∧
    (taken ≠ [] → s.st = .idle) ∧ (out ≠ [] → s.st.inFrame = true) ∧
    (issued ≠ [] → s.st = .cycCmd ∨ s.st = .cycRd22 ∨ s.st = .cycRd10)

namespace AtMostOnePortEvent

variable {s t : State}

theorem of_none (hin : t.env.cmdIn = s.env.cmdIn) (hout : t.env.txOut = s.env.txOut)
    (hlog : t.env.busLog = s.env.busLog) : AtMostOnePortEvent s t :=
  ⟨[], [], [], by simp [hin], by simp [hout], by simp [hlog], by simp, by simp, by simp, by simp⟩

theorem of_taken (b : Byte) (hst : s.st = .idle) (hin : s.env.cmdIn = b :: t.env.cmdIn)
    (hout : t.env.txOut = s.env.txOut) (hlog : t.env.busLog = s.env.busLog) : AtMostOnePortEvent s t :=
  ⟨[b], [], [], hin, by simp [hout], by simp [hlog], by simp, fun _ => hst, by simp, by simp⟩

theorem of_emitted (b : Byte) (hst : s.st.inFrame = true) (hin : t.env.cmdIn = s.env.cmdIn)
    (hout : t.env.txOut = s.env.txOut ++ [b]) (hlog : t.env.busLog = s.env.busLog) : AtMostOnePortEvent s t :=
  ⟨[], [b], [], by simp [hin], hout, by simp [hlog], by simp, by simp, fun _ => hst, by simp⟩

theorem of_issued (e : BusEvent) (hst : s.st = .cycCmd ∨ s.st = .cycRd22 ∨ s.st = .cycRd10)
    (hin : t.env.cmdIn = s.env.cmdIn) (hout : t.env.txOut = s.env.txOut)
    (hlog : t.env.busLog = s.env.busLog ++ [e]) : AtMostOnePortEvent s t :=
  ⟨[], [], [e], by simp [hin], by simp [hout], hlog, by simp, by simp, by simp, fun _ => hst⟩

end AtMostOnePortEvent

/-- The port event of each operation: a byte taken in IDLE, a byte emitted in a frame state, a transaction issued in
CYC_CMD, CYC_RD22 or CYC_RD10, and none elsewhere or where the put fails. -/
theorem OperationResult.atMostOnePortEvent {s t : State} (h : OperationResult s t) : AtMostOnePortEvent s t := by
  cases h with
  | waits | scanStarts | decodes | fails => exact .of_none (by simp) (by simp) (by simp)
  | starts b rest hst hin => exact .of_taken b hst (by simp [hin]) (by simp) (by simp)
  | discards b rest hst hin => exact .of_taken b hst (by simp [hin]) (by simp) (by simp)
  | requests hst => exact .of_issued _ (.inl hst) rfl rfl rfl
  | readsFull listed bytes hst =>
    exact .of_issued _ (.inr (.inl hst)) (by simp) (by simp) (by rw [afterFullRead_env]; rfl)
  | readsFallback listed bytes hst => exact .of_issued _ (.inr (.inr hst)) rfl rfl rfl
  | emitsHeader hst => exact .of_emitted (headerByte s.i) (by rw [hst]; rfl) (by simp) (by simp) (by simp)
  | emitsLength hst => exact .of_emitted (lengthByte s.i) (by rw [hst]; rfl) (by simp) (by simp) (by simp)
  | emitsSeq hst => exact .of_emitted s.seq (by rw [hst]; rfl) (by simp) (by simp) (by simp)
  | emitsPayload hst => exact .of_emitted (currentPayloadByte s) (by rw [hst]; rfl) (by simp) (by simp) (by simp)
  | emitsCrc hst => exact .of_emitted (crcTrailerByte s.crc s.i) (by rw [hst]; rfl) (by simp) (by simp) (by simp)

/-- Settles O41: a reset event uses no port, and each operation at most one. -/
theorem atMostOnePortEventAStep : Obligations.AtMostOnePortEventAStep := by
  intro s t h
  obtain ⟨-, rfl⟩ | ⟨-, hop⟩ := step_next h
  · exact AtMostOnePortEvent.of_none rfl rfl rfl
  · exact hop.atMostOnePortEvent

end Sys2Proof.Machine
end

section
/-! PROOFS of the family 10_state: the scan invariant is kept by every step. -/

namespace Sys2Proof.Machine

variable {s t d : State}

/-- Outside a scan and its frame the scan invariant says nothing. -/
theorem State.ScanInv.of_quiet (hcyc : t.st.inCycle = false) (hfrm : t.st.inFrame = false) : t.ScanInv where
  pendingZero h := by simp [hcyc] at h
  pendingStatus h := by simp [hcyc] at h
  abandonedZero h := by simp [hcyc, hfrm] at h
  keptLength h := by simp [h, SeqState.inCycle] at hcyc

/-- The scan invariant passes to a state of the same scan with the same buffer, cycle index and status. -/
theorem State.ScanInv.of_unchanged (h : s.ScanInv) (hp : t.params = s.params) (hbuf : t.buf = s.buf) (hc : t.c = s.c)
    (hok : t.cycleOk = s.cycleOk) (hcyc : t.st.inCycle = true → s.st.inCycle = true)
    (hfrm : t.st.inFrame = true → s.st.inFrame = true)
    (hkept : t.st = .cycDec → t.params.respCountMode = .bounded → t.rlen = 22#8 ∨ t.rlen.toNat ≤ 10) : t.ScanInv := by
  have hzero : ∀ j, t.cycleZero j ↔ s.cycleZero j := fun j => by simp only [State.cycleZero, hbuf]
  refine ⟨fun h' j hj => ?_, fun h' hs j hj => ?_, fun h' hs j hj => ?_, hkept⟩
  · exact (hzero j).mpr (h.pendingZero (hcyc h') j (hc ▸ hj))
  · exact hok ▸ h.pendingStatus (hcyc h') (hp ▸ hs) j (hc ▸ hj)
  · exact (hzero j).mpr (h.abandonedZero (h'.imp hcyc hfrm) (hp ▸ hs) j (hok ▸ hj))

/-- A step of the frame encoder that stays in the frame or ends it keeps the scan invariant. -/
theorem State.ScanInv.of_frameStep (h : s.ScanInv) (hs : s.st.inFrame = true) (ht : t.st.inCycle = false)
    (hp : t.params = s.params) (hbuf : t.buf = s.buf) (hc : t.c = s.c) (hok : t.cycleOk = s.cycleOk) : t.ScanInv :=
  h.of_unchanged hp hbuf hc hok (fun h' => by simp [ht] at h') (fun _ => hs)
    (fun h' => by simp [h', SeqState.inCycle] at ht)

/-- SCAN_INIT establishes the scan invariant: everything is zero and nothing is decoded. -/
theorem scanInit_scanInv : (scanInit s).ScanInv where
  pendingZero _ _ _ _ := by simp
  pendingStatus _ hs _ _ := by
    have : s.params.hasCycleStatus = true := hs
    simp [this]
  abandonedZero _ _ _ _ _ := by simp
  keptLength h := by cases h

/-- The length kept of a response of at most 10 bytes is its own. -/
theorem keptLength_le_ten {l : List Byte} (h : l.length ≤ 10) : (BitVec.ofNat 8 (min l.length 255)).toNat ≤ 10 := by
  simp only [BitVec.toNat_ofNat]
  omega

theorem delivered_bounded_length_le (n : Nat) (l : List Byte) : (delivered .bounded n l).length ≤ n := by
  simp [delivered, maxCount]

/-! CYC_DEC. -/

/-- What the decode of the current cycle leaves for the scan advance: the later cycles are untouched, and the entries of
every cycle whose status says abandoned are zero. -/
structure State.CycleDecoded (d : State) : Prop where
  laterZero : ∀ j : BitVec 4, d.c < j → d.cycleZero j
  laterStatus : d.params.hasCycleStatus = true → ∀ j : BitVec 4, d.c < j → d.cycleOk.getLsbD j.toNat = false
  abandonedZero : d.params.hasCycleStatus = true → ∀ j : BitVec 4, d.cycleOk.getLsbD j.toNat = false → d.cycleZero j

theorem State.CycleDecoded.scanAdvance (h : d.CycleDecoded) : (scanAdvance d).ScanInv := by
  by_cases hc : d.c = 15#4
  · rw [scanAdvance_last hc]
    exact ⟨nofun, nofun, fun _ => h.abandonedZero, nofun⟩
  · rw [scanAdvance_other hc]
    have later : ∀ j, d.c + 1#4 ≤ j → d.c < j := fun j hj => by bv_omega
    exact ⟨fun _ j hj => h.laterZero j (later j hj), fun _ hs j hj => h.laterStatus hs j (later j hj),
      fun _ => h.abandonedZero, nofun⟩

/-- Reading bit `j` of the status after bit `c` was written, where the status output exists. -/
theorem State.setCycleOk_getLsbD (s : State) (hs : s.params.hasCycleStatus = true) (c j : BitVec 4) (ok : Bool) :
    (s.setCycleOk c ok).cycleOk.getLsbD j.toNat = if j = c then ok else s.cycleOk.getLsbD j.toNat := by
  simp only [State.setCycleOk_cycleOk, hs, if_true, writeBit_getLsbD]

theorem State.setCycleOk_cycleZero (s : State) (c j : BitVec 4) (ok : Bool) :
    (s.setCycleOk c ok).cycleZero j ↔ s.cycleZero j := Iff.rfl

/-- Abandoning the current cycle: its entries are still those of a pending cycle, zero. -/
theorem State.ScanInv.abandoned (h : s.ScanInv) (hst : s.st.inCycle = true) :
    (s.setCycleOk s.c false).CycleDecoded where
  laterZero j hj := h.pendingZero hst j (BitVec.le_of_lt hj)
  laterStatus hs j hj := by
    rw [s.setCycleOk_getLsbD hs, h.pendingStatus hst hs j (BitVec.le_of_lt hj), ite_self]
  abandonedZero hs j hj := by
    rw [s.setCycleOk_getLsbD hs] at hj
    by_cases hjc : j = s.c
    · exact h.pendingZero hst j (by simp [hjc])
    · exact h.abandonedZero (.inl hst) hs j (by simpa [hjc] using hj)

/-- Decoding the current cycle writes no other cycle's entries. -/
theorem decodeElements_cycleZero {j : BitVec 4} (hj : j ≠ s.c) (h : s.cycleZero j) : (decodeElements s).cycleZero j :=
  fun k => (decodeElements_get_other s j k hj).trans (h k)

/-- Decoding the current cycle: its status becomes 1, so its entries need not be zero. -/
theorem State.ScanInv.decoded (h : s.ScanInv) (hst : s.st.inCycle = true) :
    ((decodeElements s).setCycleOk s.c true).CycleDecoded := by
  have later : ∀ j, ((decodeElements s).setCycleOk s.c true).c < j → s.c ≤ j ∧ j ≠ s.c := fun j hj => by
    simp only [State.setCycleOk_c, decodeElements_c] at hj
    exact ⟨BitVec.le_of_lt hj, fun e => by simp [e] at hj⟩
  refine ⟨fun j hj => ?_, fun hs j hj => ?_, fun hs j hj => ?_⟩
  · obtain ⟨hle, hne⟩ := later j hj
    exact (State.setCycleOk_cycleZero ..).mpr (decodeElements_cycleZero hne (h.pendingZero hst j hle))
  · obtain ⟨hle, hne⟩ := later j hj
    rw [(decodeElements s).setCycleOk_getLsbD hs, if_neg hne, decodeElements_cycleOk]
    exact h.pendingStatus hst (by simpa using hs) j hle
  · rw [(decodeElements s).setCycleOk_getLsbD hs, decodeElements_cycleOk] at hj
    by_cases hjc : j = s.c
    · simp [hjc] at hj
    · have hzero : s.cycleZero j := h.abandonedZero (.inl hst) (by simpa using hs) j (by simpa [hjc] using hj)
      exact (State.setCycleOk_cycleZero ..).mpr (decodeElements_cycleZero hjc hzero)

theorem State.ScanInv.cycDec (h : s.ScanInv) (hst : s.st = .cycDec) : (cycDec s).ScanInv := by
  have hcyc : s.st.inCycle = true := by rw [hst]; rfl
  by_cases hl : s.rlen.toNat < 10
  · rw [cycDec_short hl]
    exact (h.abandoned hcyc).scanAdvance
  · rw [cycDec_enough (by omega)]
    exact (h.decoded hcyc).scanAdvance

/-- The reads leave buffer, cycle index and status; the length one keeps is 22, or under `bounded` at most 10. -/
theorem State.ScanInv.afterFullRead (h : s.ScanInv) (hst : s.st.inCycle = true) (l : List Byte) :
    (afterFullRead l s).ScanInv := by
  refine h.of_unchanged (by simp) (by simp) (by simp) (by simp) (fun _ => hst) (fun hf => ?_) (fun hd _ => ?_)
  · by_cases hl : l.length = 22 <;> simp [hl, SeqState.inFrame] at hf
  · by_cases hl : l.length = 22
    · simp [afterFullRead_of_full hl, hl]
    · simp [hl] at hd

theorem State.ScanInv.afterFallbackRead (h : s.ScanInv) (hst : s.st.inCycle = true) {l : List Byte}
    (hl : s.params.respCountMode = .bounded → l.length ≤ 10) : (afterFallbackRead l s).ScanInv :=
  h.of_unchanged rfl rfl rfl rfl (fun _ => hst) nofun (fun _ hm => .inr (keptLength_le_ten (hl hm)))

/-- The environment does not enter the scan invariant. -/
theorem State.ScanInv.of_env (h : s.ScanInv) (e : Env) : State.ScanInv { s with env := e } :=
  h.of_unchanged rfl rfl rfl rfl id id h.keptLength

theorem State.ScanInv.absorb (h : s.ScanInv) (b : Byte) : (s.absorb b).ScanInv :=
  h.of_unchanged rfl rfl rfl rfl id id h.keptLength

theorem State.ScanInv.stepField (h : s.ScanInv) (hst : s.st.inFrame = true) (last : Byte) {next : SeqState}
    (hnext : next.inFrame = true) : (stepField last next s).ScanInv := by
  refine h.of_frameStep hst ?_ (by simp) (by simp) (by simp) (by simp)
  rw [stepField_st]
  split
  · exact SeqState.not_inCycle_of_inFrame hnext
  · exact SeqState.not_inCycle_of_inFrame hst

theorem State.ScanInv.afterCrc (h : s.ScanInv) (hst : s.st.inFrame = true) : (afterCrc s).ScanInv := by
  refine h.of_frameStep hst ?_ (by simp) (by simp) (by simp) (by simp)
  rw [afterCrc_st]
  split
  · rfl
  · exact SeqState.not_inCycle_of_inFrame hst

theorem OperationResult.scanInv (h : s.ScanInv) (hop : OperationResult s t) : t.ScanInv := by
  cases hop with
  | waits => exact h
  | starts | discards | fails => exact .of_quiet rfl rfl
  | scanStarts => exact scanInit_scanInv
  | requests hst => exact h.of_unchanged rfl rfl rfl rfl (fun _ => by rw [hst]; rfl) nofun nofun
  | readsFull listed bytes hst => exact (h.of_env _).afterFullRead (by simp [hst, SeqState.inCycle]) _
  | readsFallback listed bytes hst _ hb =>
    refine (h.of_env _).afterFallbackRead (by simp [hst, SeqState.inCycle]) fun hm => ?_
    have hm : s.params.respCountMode = .bounded := hm
    rw [hb, hm]
    exact delivered_bounded_length_le 10 listed
  | decodes hst => exact h.cycDec hst
  | emitsHeader hst => exact (h.of_env _).stepField (by simp [hst, SeqState.inFrame]) _ rfl
  | emitsLength hst => exact (h.of_env _).stepField (by simp [hst, SeqState.inFrame]) _ rfl
  | emitsSeq hst =>
    exact h.of_frameStep (by simp [hst, SeqState.inFrame]) (by simp [SeqState.inCycle]) (by simp) (by simp) (by simp)
      (by simp)
  | emitsPayload hst => exact ((h.of_env _).absorb _).stepField (by simp [hst, SeqState.inFrame]) _ rfl
  | emitsCrc hst => exact (h.of_env _).afterCrc (by simp [hst, SeqState.inFrame])

/-- Settles O47: a reset event leads out of the scan, and each operation keeps the invariant. -/
theorem everyStepKeepsTheScanInvariant : Obligations.EveryStepKeepsTheScanInvariant := by
  intro s t h hstep
  obtain ⟨-, rfl⟩ | ⟨-, hop⟩ := step_next hstep
  · exact .of_quiet rfl rfl
  · exact hop.scanInv (h.of_env _)

end Sys2Proof.Machine
end

section
/-! PROOFS of the family 10_state: agreement is a bisimulation, so what the spec leaves unspecified is unobservable. -/

namespace Sys2Proof.Machine

variable {s t : State}

namespace State.Agree

/-! Updates that leave `st` keep agreement. -/

/-- The same change of the environment on both sides. -/
theorem map_env (h : s.Agree t) (f : Env → Env) : State.Agree { s with env := f s.env } { t with env := f t.env } :=
  { h with env := congrArg f h.env }

theorem setIndex (h : s.Agree t) (n : Byte) : (s.setIndex n).Agree (t.setIndex n) := { h with i := fun _ => rfl }

theorem setCycle (h : s.Agree t) (n : BitVec 4) : (s.setCycle n).Agree (t.setCycle n) := { h with c := fun _ => rfl }

theorem absorb (h : s.Agree t) (b : Byte) : (s.absorb b).Agree (t.absorb b) :=
  { h with crc := fun hst => congrArg (crcByte · b) (h.crc hst) }

theorem setEntry (h : s.Agree t) (e : BitVec 6) (v : Word) : (s.setEntry e v).Agree (t.setEntry e v) :=
  { h with buf := fun hst => congrArg (·.set e.toNat v e.isLt) (h.buf hst) }

theorem clearBuffer (h : s.Agree t) : s.clearBuffer.Agree t.clearBuffer := { h with buf := fun _ => rfl }

theorem clearCycleOk (h : s.Agree t) : s.clearCycleOk.Agree t.clearCycleOk :=
  { h with cycleOk := by simp only [clearCycleOk_cycleOk, h.params, h.cycleOk] }

theorem setCycleOk (h : s.Agree t) (c : BitVec 4) (ok : Bool) : (s.setCycleOk c ok).Agree (t.setCycleOk c ok) :=
  { h with cycleOk := by simp only [setCycleOk_cycleOk, h.params, h.cycleOk] }

/-! A change of `st` keeps agreement where what the new state reads is the same. -/

/-- IDLE, SCAN_INIT and FAULT read nothing that may differ. -/
theorem goto_quiet (h : s.Agree t) {u : SeqState} (hcyc : u.inCycle = false) (hfrm : u.inFrame = false) :
    (s.goto u).Agree (t.goto u) := by
  cases u with
  | idle | scanInit | fault =>
    exact { params := h.params, st := rfl, seq := h.seq, cycleOk := h.cycleOk, env := h.env, buf := nofun, c := nofun,
            i := nofun, rlen := nofun, rbuf := nofun, crc := nofun }
  | cycCmd | cycRd22 | cycRd10 | cycDec => cases hcyc
  | _ => cases hfrm

/-- The cycle reader reads the buffer and the cycle index, and in CYC_DEC the response kept. -/
theorem goto_cycle (h : s.Agree t) {u : SeqState} (hu : u.inCycle = true) (hbuf : s.buf = t.buf) (hc : s.c = t.c)
    (hlen : u = .cycDec → s.rlen = t.rlen)
    (hrbuf : u = .cycDec → ∀ j : Fin 22, j.val < s.rlen.toNat → s.rbuf[j] = t.rbuf[j]) :
    (s.goto u).Agree (t.goto u) where
  params := h.params
  st := rfl
  seq := h.seq
  cycleOk := h.cycleOk
  env := h.env
  buf _ := hbuf
  c _ := hc
  i hi := by rcases hi with rfl | rfl | rfl | rfl <;> cases hu
  rlen := hlen
  rbuf := hrbuf
  crc hcrc := by rcases hcrc with rfl | rfl <;> cases hu

/-- The frame encoder reads the buffer and the byte index, and in FRM_PAY and FRM_CRC the CRC register. -/
theorem goto_frame (h : s.Agree t) {u : SeqState} (hu : u.inFrame = true) (hbuf : s.buf = t.buf) (hi : s.i = t.i)
    (hcrc : u = .frmPay ∨ u = .frmCrc → s.crc = t.crc) : (s.goto u).Agree (t.goto u) where
  params := h.params
  st := rfl
  seq := h.seq
  cycleOk := h.cycleOk
  env := h.env
  buf _ := hbuf
  c hc := by simp [SeqState.not_inCycle_of_inFrame hu] at hc
  i _ := hi
  rlen hd := by cases hd; cases hu
  rbuf hd := by cases hd; cases hu
  crc := hcrc

theorem resetEvent (h : s.Agree t) : s.resetEvent.Agree t.resetEvent where
  params := h.params
  st := rfl
  seq := rfl
  cycleOk := by simp only [resetEvent_cycleOk, h.params, h.cycleOk]
  env := h.env
  buf := nofun
  c := nofun
  i := nofun
  rlen := nofun
  rbuf := nofun
  crc := nofun

/-! The ports answer two agreeing states alike. -/

theorem txPut (h : s.Agree t) {b : Byte} {k l : State → State}
    (hk : ∀ f : Env → Env, (k { s with env := f s.env }).Agree (l { t with env := f t.env })) :
    outcomesAgree (txPut b k s) (txPut b l t) := by
  have same : s.txAnswer = t.txAnswer := by rw [State.txAnswer, h.env, State.txAnswer]
  cases ha : t.txAnswer with
  | accepted =>
    rw [txPut_of_accepted (same.trans ha), txPut_of_accepted ha]
    exact hk fun e => { e with txPort := e.txPort.tail, txOut := e.txOut ++ [b] }
  | failed =>
    rw [txPut_of_failed (same.trans ha), txPut_of_failed ha]
    exact (h.map_env fun e => { e with txPort := e.txPort.tail }).goto_quiet rfl rfl
  | neverAccepted => rw [txPut_of_never (same.trans ha), txPut_of_never ha]; rfl

theorem busWrite (h : s.Agree t) {bytes : List Byte} {hold : Bool} {k : State → State}
    (hk : ∀ f : Env → Env, (k { s with env := f s.env }).Agree (k { t with env := f t.env })) :
    outcomesAgree (busWrite bytes hold k s) (busWrite bytes hold k t) := by
  have same : s.writeAnswer = t.writeAnswer := by rw [State.writeAnswer, h.env, State.writeAnswer]
  unfold Machine.busWrite
  rw [same, h.params]
  cases t.writeAnswer with
  | completes a =>
    exact hk fun e => { e with busWr := e.busWr.tail, busLog := e.busLog ++ [.write t.params.busAddr bytes hold] }
  | neverCompletes => rfl

theorem busRead (h : s.Agree t) {n : Nat} {k : List Byte → State → State}
    (hk : ∀ (bytes : List Byte) (f : Env → Env),
      (k bytes { s with env := f s.env }).Agree (k bytes { t with env := f t.env })) :
    outcomesAgree (busRead n k s) (busRead n k t) := by
  have same : s.readAnswer = t.readAnswer := by rw [State.readAnswer, h.env, State.readAnswer]
  unfold Machine.busRead
  rw [same, h.params]
  cases t.readAnswer with
  | returns listed =>
    exact hk _ fun e =>
      { e with
        busRd := e.busRd.tail
        busLog := e.busLog ++ [.read t.params.busAddr n (delivered t.params.respCountMode n listed).length] }
  | neverCompletes => rfl

/-! The operation of each state. -/

/-- The instructions of the command input answer agreeing states alike. -/
theorem execCommand (h : s.Agree t) (b : Byte) :
    outcomesAgree (exec (decodeCommand b) s) (exec (decodeCommand b) t) := by
  unfold decodeCommand
  split
  · exact h.goto_quiet rfl rfl
  · split
    · exact h.goto_quiet rfl rfl
    · exact h.goto_quiet rfl rfl

theorem idle (h : s.Agree t) : outcomesAgree (idle s) (idle t) := by
  unfold Machine.idle
  rw [← h.env]
  cases s.env.cmdIn with
  | nil => exact h
  | cons b rest => exact (h.map_env fun e => { e with cmdIn := rest }).execCommand b

theorem scanInit (h : s.Agree t) : (scanInit s).Agree (scanInit t) :=
  (h.clearBuffer.clearCycleOk.setCycle 0#4).goto_cycle rfl rfl rfl nofun nofun

theorem cycCmd (h : s.Agree t) (hst : s.st = .cycCmd) :
    outcomesAgree (exec (.readCycle s.c) s) (exec (.readCycle t.c) t) := by
  have hcyc : s.st.inCycle = true := by rw [hst]; rfl
  rw [h.c hcyc]
  exact h.busWrite fun f => (h.map_env f).goto_cycle rfl (h.buf (.inl hcyc)) (h.c hcyc) nofun nofun

theorem keepResponse_goto (h : s.Agree t) (hcyc : s.st.inCycle = true) (l : List Byte) :
    ((s.keepResponse l).goto .cycDec).Agree ((t.keepResponse l).goto .cycDec) where
  params := h.params
  st := rfl
  seq := h.seq
  cycleOk := h.cycleOk
  env := h.env
  buf _ := h.buf (.inl hcyc)
  c _ := h.c hcyc
  i := nofun
  rlen _ := rfl
  rbuf _ j hj := by
    have hl : j.val < l.length := by
      simp only [goto_rlen, keepResponse_rlen, BitVec.toNat_ofNat] at hj
      omega
    simp [hl]
  crc := nofun

theorem cycRd22 (h : s.Agree t) (hst : s.st = .cycRd22) : outcomesAgree (cycRd22 s) (cycRd22 t) := by
  have hcyc : s.st.inCycle = true := by rw [hst]; rfl
  refine h.busRead fun l f => ?_
  have h := h.map_env f
  by_cases hl : l.length = 22
  · rw [afterFullRead_of_full hl, afterFullRead_of_full hl]
    exact h.keepResponse_goto hcyc l
  · rw [afterFullRead_of_other hl, afterFullRead_of_other hl]
    exact h.goto_cycle rfl (h.buf (.inl hcyc)) (h.c hcyc) nofun nofun

theorem cycRd10 (h : s.Agree t) (hst : s.st = .cycRd10) : outcomesAgree (cycRd10 s) (cycRd10 t) :=
  h.busRead fun l f => (h.map_env f).keepResponse_goto (by rw [hst]; rfl) l

/-- An element a response holds whole lies in its bytes, so its value is that of an agreeing state. -/
theorem elementValue_eq (h : s.Agree t) (hst : s.st = .cycDec) {k : BitVec 2}
    (hk : elementPresent s.rlen k = true) : elementValue s.rbuf k = elementValue t.rbuf k := by
  have bound : 6 + 4 * k.toNat + 3 < s.rlen.toNat := by simpa [elementPresent] using hk
  have hk4 := k.isLt
  have low := h.rbuf hst ⟨8 + 4 * k.toNat, by omega⟩ (by simp only; omega)
  have high := h.rbuf hst ⟨9 + 4 * k.toNat, by omega⟩ (by simp only; omega)
  exact congrArg₂ fromLE low high

theorem decodeElement (h : s.Agree t) (hst : s.st = .cycDec) (k : BitVec 2) :
    (decodeElement k s).Agree (decodeElement k t) := by
  unfold Machine.decodeElement
  rw [← h.rlen hst, ← h.c (by rw [hst]; rfl)]
  split
  · next hk =>
    rw [h.elementValue_eq hst hk]
    exact h.setEntry _ _
  · exact h

theorem decodeElements (h : s.Agree t) (hst : s.st = .cycDec) : (decodeElements s).Agree (decodeElements t) := by
  have h0 := h.decodeElement hst 0#2
  have h1 := h0.decodeElement (by simp [hst]) 1#2
  have h2 := h1.decodeElement (by simp [hst]) 2#2
  exact h2.decodeElement (by simp [hst]) 3#2

theorem scanAdvance (h : s.Agree t) (hst : s.st = .cycDec) : (scanAdvance s).Agree (scanAdvance t) := by
  have hcyc : s.st.inCycle = true := by rw [hst]; rfl
  have hc := h.c hcyc
  have hbuf := h.buf (.inl hcyc)
  by_cases hl : s.c = 15#4
  · rw [scanAdvance_last hl, scanAdvance_last (hc ▸ hl)]
    exact (h.setIndex 0#8).goto_frame rfl hbuf rfl nofun
  · rw [scanAdvance_other hl, scanAdvance_other (hc ▸ hl), ← hc]
    exact (h.setCycle _).goto_cycle rfl hbuf rfl nofun nofun

theorem cycDec (h : s.Agree t) (hst : s.st = .cycDec) : (cycDec s).Agree (cycDec t) := by
  have hlen := h.rlen hst
  have hc : s.c = t.c := h.c (by rw [hst]; rfl)
  by_cases hl : s.rlen.toNat < 10
  · rw [cycDec_short hl, cycDec_short (hlen ▸ hl), ← hc]
    exact (h.setCycleOk s.c false).scanAdvance hst
  · rw [cycDec_enough (Nat.le_of_not_lt hl), cycDec_enough (hlen ▸ Nat.le_of_not_lt hl), ← hc]
    exact ((h.decodeElements hst).setCycleOk s.c true).scanAdvance (by simp [hst])

theorem stepField (h : s.Agree t) (hst : s.st.inFrame = true) (hi : s.i = t.i) (last : Byte) {next : SeqState}
    (hnext : next.inFrame = true) (hcrc : next = .frmPay ∨ next = .frmCrc → s.crc = t.crc) :
    (stepField last next s).Agree (stepField last next t) := by
  by_cases hl : s.i = last
  · rw [stepField_last hl, stepField_last (hi ▸ hl)]
    exact (h.setIndex 0#8).goto_frame hnext (h.buf (.inr hst)) rfl hcrc
  · rw [stepField_other hl, stepField_other (hi ▸ hl), hi]
    exact h.setIndex _

theorem frmHdr (h : s.Agree t) (hst : s.st = .frmHdr) : outcomesAgree (frmHdr s) (frmHdr t) := by
  have hi := h.i (.inl hst)
  unfold Machine.frmHdr
  rw [← hi]
  exact h.txPut fun f => (h.map_env f).stepField (by rw [hst]; rfl) hi 3#8 rfl nofun

theorem frmLen (h : s.Agree t) (hst : s.st = .frmLen) : outcomesAgree (frmLen s) (frmLen t) := by
  have hi := h.i (.inr (.inl hst))
  unfold Machine.frmLen
  rw [← hi]
  exact h.txPut fun f => (h.map_env f).stepField (by rw [hst]; rfl) hi 1#8 rfl nofun

theorem afterSeq (h : s.Agree t) (hst : s.st = .frmSeq) : (afterSeq s).Agree (afterSeq t) where
  params := h.params
  st := rfl
  seq := congrArg (· + 1#8) h.seq
  cycleOk := h.cycleOk
  env := h.env
  buf _ := h.buf (.inr (by rw [hst]; rfl))
  c := nofun
  i _ := rfl
  rlen := nofun
  rbuf := nofun
  crc _ := by simp only [afterSeq_crc, h.seq]

theorem frmSeq (h : s.Agree t) (hst : s.st = .frmSeq) : outcomesAgree (frmSeq s) (frmSeq t) := by
  unfold Machine.frmSeq
  rw [← h.seq]
  exact h.txPut fun f => (h.map_env f).afterSeq hst

theorem frmPay (h : s.Agree t) (hst : s.st = .frmPay) : outcomesAgree (frmPay s) (frmPay t) := by
  have hfrm : s.st.inFrame = true := by rw [hst]; rfl
  have hi := h.i (.inr (.inr (.inl hst)))
  have hbyte : currentPayloadByte s = currentPayloadByte t := by
    rw [currentPayloadByte, h.buf (.inr hfrm), hi, currentPayloadByte]
  unfold Machine.frmPay
  rw [← hbyte]
  refine h.txPut fun f => ?_
  have ha := (h.map_env f).absorb (currentPayloadByte s)
  exact ha.stepField hfrm hi 127#8 rfl fun _ => ha.crc (.inl hst)

theorem afterCrc (h : s.Agree t) (hst : s.st = .frmCrc) : (afterCrc s).Agree (afterCrc t) := by
  have hi := h.i (.inr (.inr (.inr hst)))
  by_cases hl : s.i = 1#8
  · rw [afterCrc_last hl, afterCrc_last (hi ▸ hl)]
    exact h.goto_quiet rfl rfl
  · rw [afterCrc_other hl, afterCrc_other (hi ▸ hl), hi]
    exact h.setIndex _

theorem frmCrc (h : s.Agree t) (hst : s.st = .frmCrc) : outcomesAgree (frmCrc s) (frmCrc t) := by
  unfold Machine.frmCrc
  rw [← h.i (.inr (.inr (.inr hst))), ← h.crc (.inr hst)]
  exact h.txPut fun f => (h.map_env f).afterCrc hst

/-- Agreement is kept by the operation of the current state, whichever it is. -/
theorem operation (h : s.Agree t) : outcomesAgree (operation s) (operation t) := by
  unfold Machine.operation
  rw [← h.st]
  cases hst : s.st with
  | idle => exact h.idle
  | scanInit => exact h.scanInit
  | cycCmd => exact h.cycCmd hst
  | cycRd22 => exact h.cycRd22 hst
  | cycRd10 => exact h.cycRd10 hst
  | cycDec => exact h.cycDec hst
  | frmHdr => exact h.frmHdr hst
  | frmLen => exact h.frmLen hst
  | frmSeq => exact h.frmSeq hst
  | frmPay => exact h.frmPay hst
  | frmCrc => exact h.frmCrc hst
  | fault => rfl

end State.Agree

/-- Settles O49: agreeing states are offered the same reset, and both the reset event and the operation of the current
state keep agreement. -/
theorem unspecifiedValuesAreUnobservable : Obligations.UnspecifiedValuesAreUnobservable := by
  intro s t h
  have sampled : s.sampleReset.Agree t.sampleReset := h.map_env fun e => { e with resetIn := e.resetIn.tail }
  have same : s.resetOffered = t.resetOffered := by rw [State.resetOffered, h.env, State.resetOffered]
  cases hr : t.resetOffered with
  | true =>
    rw [step_of_reset (same.trans hr), step_of_reset hr]
    exact sampled.resetEvent
  | false =>
    rw [step_of_no_reset (same.trans hr), step_of_no_reset hr]
    exact sampled.operation

end Sys2Proof.Machine
end

section
/-! PROOFS of the family 20_memory: the byte order of a response's elements and of the payload. -/

namespace Sys2Proof.Machine

/-- A byte of the response buffer, read off its list. -/
theorem rbuf_getD (rbuf : Vector Byte 22) {j : Nat} (hj : j < 22) : rbuf.toList.getD j 0#8 = rbuf[j] := by
  rw [List.getD_eq_getElem _ _ (by simpa using hj), Vector.getElem_toList]

/-- Both value bytes of an element, 8 + 4k and 9 + 4k, lie in the 22 bytes of the response buffer. -/
theorem elementValue_toNat (rbuf : Vector Byte 22) (k : BitVec 2) :
    (elementValue rbuf k).toNat =
      (rbuf.toList.getD (8 + 4 * k.toNat) 0#8).toNat + 256 * (rbuf.toList.getD (9 + 4 * k.toNat) 0#8).toNat := by
  have hk := k.isLt
  rw [elementValue, fromLE_toNat, rbuf_getD _ (by omega), rbuf_getD _ (by omega)]

theorem elementPresent_iff (rlen : Byte) (k : BitVec 2) :
    elementPresent rlen k = true ↔ 10 + 4 * k.toNat ≤ rlen.toNat := by
  rw [elementPresent, decide_eq_true_iff]
  omega

/-- Settles O16: little-endian assembly over numbers, and the bound of the decode moved by one. -/
theorem elementValueAndBound : Obligations.ElementValueAndBound :=
  fun rbuf rlen k => ⟨elementValue_toNat rbuf k, elementPresent_iff rlen k⟩

theorem payloadByte_even (buf : Vector Word 64) (e : Nat) (h : e < 64) :
    payloadByte buf (BitVec.ofNat 7 (2 * e)) = lowByte buf[e] := by
  have index : (BitVec.ofNat 7 (2 * e) >>> 1).toNat = e := by
    rw [BitVec.toNat_ushiftRight, BitVec.toNat_ofNat, Nat.shiftRight_eq_div_pow]
    omega
  have even : (BitVec.ofNat 7 (2 * e)).getLsbD 0 = false := by rw [BitVec.getLsbD_ofNat]; simp
  simp only [payloadByte, even, index, Bool.false_eq_true, if_false]

theorem payloadByte_odd (buf : Vector Word 64) (e : Nat) (h : e < 64) :
    payloadByte buf (BitVec.ofNat 7 (2 * e + 1)) = highByte buf[e] := by
  have index : (BitVec.ofNat 7 (2 * e + 1) >>> 1).toNat = e := by
    rw [BitVec.toNat_ushiftRight, BitVec.toNat_ofNat, Nat.shiftRight_eq_div_pow]
    omega
  have odd : (BitVec.ofNat 7 (2 * e + 1)).getLsbD 0 = true := by rw [BitVec.getLsbD_ofNat]; simp
  simp only [payloadByte, odd, index, if_true]

/-- Settles O17: byte `2e` of the payload is the low byte of entry `e`, and byte `2e + 1` its high byte. -/
theorem payloadIsLittleEndianInElectrodeOrder : Obligations.PayloadIsLittleEndianInElectrodeOrder := by
  refine fun buf => ⟨payload_length buf, fun e h => ⟨?_, ?_⟩⟩
  · rw [payload_getElem? buf _ (by omega), payloadByte_even buf e h, lowByte_eq]
  · rw [payload_getElem? buf _ (by omega), payloadByte_odd buf e h, highByte_eq]

end Sys2Proof.Machine
end

section
/-! PROOFS of the family 20_memory: a frame, field by field. A field is a run of puts over consecutive indices. -/

namespace Sys2Proof.Machine

/-- A run along a sequence of states each of which steps to the one after it. -/
theorem runSteps_of_steps (f : Nat → State) (m : Nat) (h : ∀ n < m, step (f n) = .next (f (n + 1))) :
    runSteps m (f 0) = .next (f m) := by
  induction m with
  | zero => rfl
  | succ m ih =>
    rw [runSteps_add (ih fun n hn => h n (by omega)), runSteps_succ (h m (by omega))]
    rfl

/-! The environment while a frame is emitted. -/

/-- The environment after as many steps as `l` has bytes, each of which emitted one of them. -/
def Env.afterBytes (l : List Byte) (e : Env) : Env :=
  { e with txOut := e.txOut ++ l, txPort := e.txPort.drop l.length, resetIn := e.resetIn.drop l.length }

@[simp] theorem Env.afterBytes_nil (e : Env) : e.afterBytes [] = e := by simp [Env.afterBytes]

theorem Env.afterBytes_append (l m : List Byte) (e : Env) :
    e.afterBytes (l ++ m) = (e.afterBytes l).afterBytes m := by simp [Env.afterBytes]

theorem Env.afterBytes_singleton (b : Byte) (e : Env) : e.afterBytes [b] = e.afterByte b := by
  simp [Env.afterBytes, Env.afterByte]

/-- What the run of a frame asks of its environment: no reset, and each byte accepted. -/
def Env.letsFrameOut (e : Env) : Prop := e.noReset ∧ e.outputAccepted

theorem Env.letsFrameOut.afterBytes {e : Env} (h : e.letsFrameOut) (l : List Byte) : (e.afterBytes l).letsFrameOut :=
  ⟨fun b hb => h.1 b (List.mem_of_mem_drop hb), fun a ha => h.2 a (List.mem_of_mem_drop ha)⟩

/-- A step whose operation is a put emits its byte and goes on. -/
theorem step_of_put {s : State} {b : Byte} {k : State → State} (h : s.env.letsFrameOut)
    (hop : operation s.sampleReset = txPut b k s.sampleReset) :
    step s = .next (k { s with env := s.env.afterByte b }) := by
  have accepted : s.sampleReset.txAnswer = .accepted := Env.outputAccepted.answer (s := s) h.2
  rw [step_of_no_reset h.1.notOffered, hop, txPut_of_accepted accepted]
  rfl

/-! A field that ends in `stepField`: the header, the length, the payload. `upd` is what a byte of it does to the CRC
register. -/

/-- The block `u` with the bytes `l` emitted and taken into the CRC register by `upd`. -/
def State.sent (upd : Word → Byte → Word) (l : List Byte) (u : State) : State :=
  { u with crc := l.foldl upd u.crc, env := u.env.afterBytes l }

theorem State.sent_concat (upd : Word → Byte → Word) (l : List Byte) (b : Byte) (u : State) :
    u.sent upd (l ++ [b]) =
      { u.sent upd l with
        crc := upd (u.sent upd l).crc b
        env := (u.sent upd l).env.afterByte b } := by
  simp [State.sent, Env.afterBytes_append, Env.afterBytes_singleton]

/-- The block at index `n` of a field: the bytes before it are out. -/
def State.inField (upd : Word → Byte → Word) (field : List Byte) (n : Nat) (u : State) : State :=
  (u.sent upd (field.take n)).setIndex (BitVec.ofNat 8 n)

section
variable {u : State} {field : List Byte} {byte : Byte → Byte} {upd : Word → Byte → Word} {m : Nat} {next : SeqState}
  (henv : u.env.letsFrameOut)
  (hop : ∀ t : State, t.st = u.st → t.buf = u.buf → operation t =
    txPut (byte t.i) (fun v => stepField (BitVec.ofNat 8 m) next { v with crc := upd v.crc (byte t.i) }) t)
  (hbyte : ∀ (n : Nat) (h : n < field.length), byte (BitVec.ofNat 8 n) = field[n])
include henv hop hbyte

/-- The step at index `n` of a field: byte `n` is emitted and taken in. -/
theorem step_inField {n : Nat} (hn : n < field.length) :
    step (u.inField upd field n) =
      .next (stepField (BitVec.ofNat 8 m) next ((u.sent upd (field.take (n + 1))).setIndex (BitVec.ofNat 8 n))) := by
  have put := step_of_put (s := u.inField upd field n) (henv.afterBytes _) (hop _ rfl rfl)
  rw [put, ← List.take_append_getElem hn, State.sent_concat, ← hbyte n hn]
  rfl

/-- Where the put at each index emits the field's byte there, the field is emitted whole, and the next state entered with
the index back at 0. -/
theorem runSteps_field (hm : field.length = m + 1) (hlt : m < 256) (hi : u.i = 0#8) :
    runSteps field.length u = .next (((u.sent upd field).setIndex 0#8).goto next) := by
  have start : u.inField upd field 0 = u := by simp [State.inField, State.sent, State.setIndex, ← hi]
  have within : ∀ n < m, step (u.inField upd field n) = .next (u.inField upd field (n + 1)) := fun n hn => by
    have other : BitVec.ofNat 8 n ≠ BitVec.ofNat 8 m := fun e => by
      have := congrArg BitVec.toNat e
      simp only [BitVec.toNat_ofNat] at this
      omega
    rw [step_inField henv hop hbyte (by omega), stepField_other other, State.setIndex_i,
      ← BitVec.ofNat_add]
    rfl
  have final : step (u.inField upd field m) = .next (((u.sent upd field).setIndex 0#8).goto next) := by
    rw [step_inField henv hop hbyte (by omega), stepField_last (State.setIndex_i ..),
      List.take_of_length_le (by omega)]
    rfl
  have run := runSteps_of_steps (u.inField upd field) m within
  rw [start] at run
  rw [hm, runSteps_add run, runSteps_succ final, runSteps_zero]

end

/-! The fields of the frame. -/

/-- FRM_HDR and FRM_LEN take nothing into the CRC register. -/
theorem sent_crc_const (l : List Byte) (u : State) :
    u.sent (fun crc _ => crc) l = { u with env := u.env.afterBytes l } := by
  simp [State.sent]

theorem runSteps_header {s : State} (hst : s.st = .frmHdr) (hi : s.i = 0#8) (henv : s.env.letsFrameOut) :
    runSteps 4 s = .next { s with st := .frmLen, i := 0#8, env := s.env.afterBytes header } := by
  have run := runSteps_field (field := header) (byte := headerByte) (upd := fun crc _ => crc) (m := 3) (next := .frmLen)
    henv (fun t ht _ => by rw [operation, ht, hst]; rfl) (by decide) rfl (by omega) hi
  rw [sent_crc_const] at run
  exact run

theorem runSteps_length {s : State} (hst : s.st = .frmLen) (hi : s.i = 0#8) (henv : s.env.letsFrameOut) :
    runSteps 2 s = .next { s with st := .frmSeq, i := 0#8, env := s.env.afterBytes lengthField } := by
  have run := runSteps_field (field := lengthField) (byte := lengthByte) (upd := fun crc _ => crc) (m := 1)
    (next := .frmSeq) henv (fun t ht _ => by rw [operation, ht, hst]; rfl) (by decide) rfl (by omega) hi
  rw [sent_crc_const] at run
  exact run

theorem runSteps_seq {s : State} (hst : s.st = .frmSeq) (henv : s.env.letsFrameOut) :
    runSteps 1 s = .next (afterSeq { s with env := s.env.afterBytes [s.seq] }) := by
  have put := step_of_put (b := s.seq) (k := afterSeq) henv (by rw [operation, State.sampleReset_st, hst]; rfl)
  rw [runSteps_succ put, ← Env.afterBytes_singleton, runSteps_zero]

theorem runSteps_payload {s : State} (hst : s.st = .frmPay) (hi : s.i = 0#8) (henv : s.env.letsFrameOut) :
    runSteps 128 s = .next (((s.sent crcByte (payload s.buf)).setIndex 0#8).goto .frmCrc) := by
  have run := runSteps_field (field := payload s.buf) (byte := fun i => payloadByte s.buf (i.setWidth 7))
    (upd := crcByte) (m := 127) (next := .frmCrc) henv
    (fun t ht hb => by rw [operation, ht, hst, ← hb]; rfl)
    (fun n h => by rw [payload_getElem, BitVec.setWidth_ofNat_of_le (by omega)]) (by simp) (by omega) hi
  rwa [payload_length] at run

theorem leBytes_eq_crcTrailerBytes (crc : Word) : leBytes crc = [crcTrailerByte crc 0#8, crcTrailerByte crc 1#8] := by
  simp [leBytes, crcTrailerByte]

theorem step_frmCrc {s : State} (hst : s.st = .frmCrc) (henv : s.env.letsFrameOut) :
    step s = .next (afterCrc { s with env := s.env.afterBytes [crcTrailerByte s.crc s.i] }) := by
  rw [step_of_put henv (by rw [operation, State.sampleReset_st, hst]; rfl), Env.afterBytes_singleton]
  rfl

theorem runSteps_crc {s : State} (hst : s.st = .frmCrc) (hi : s.i = 0#8) (henv : s.env.letsFrameOut) :
    runSteps 2 s = .next { s with st := .idle, i := 1#8, env := s.env.afterBytes (leBytes s.crc) } := by
  have low : step s = .next { s with i := 1#8, env := s.env.afterBytes [crcTrailerByte s.crc 0#8] } := by
    rw [step_frmCrc hst henv, afterCrc_other (by simp [hi]), State.setIndex, hi]
    rfl
  have high := step_frmCrc (s := { s with i := 1#8, env := s.env.afterBytes [crcTrailerByte s.crc 0#8] }) hst
    (henv.afterBytes _)
  rw [runSteps_succ low, runSteps_succ high, afterCrc_last rfl, ← Env.afterBytes_append, runSteps_zero,
    leBytes_eq_crcTrailerBytes]
  rfl

/-- What FRM_SEQ and FRM_PAY take into the CRC register is CRCIN (30_encoding.md R77). -/
theorem crc16_crcInput (f : Byte) (buf : Vector Word 64) :
    (payload buf).foldl crcByte (crc16 [f, 0x80#8, 0x00#8]) = crc16 (crcInput f buf) := by
  simp [crc16, crcInput, lengthField]

/-- A whole frame: its bytes are out, the counter has advanced, and of the rest of the block only the frame encoder's own
registers have changed. -/
theorem runSteps_frame {s : State} (hst : s.st = .frmHdr) (hi : s.i = 0#8) (henv : s.env.letsFrameOut) :
    runSteps 137 s = .next
      { s with
        st := .idle
        seq := s.seq + 1#8
        fseq := s.seq
        crc := crc16 (crcInput s.seq s.buf)
        i := 1#8
        env := s.env.afterBytes (frameBytes s.seq s.buf) } := by
  rw [show 137 = 4 + (2 + (1 + (128 + 2))) from rfl, runSteps_add (runSteps_header hst hi henv),
    runSteps_add (runSteps_length rfl rfl (henv.afterBytes _)),
    runSteps_add (runSteps_seq rfl ((henv.afterBytes _).afterBytes _)),
    runSteps_add (runSteps_payload rfl rfl (((henv.afterBytes _).afterBytes _).afterBytes _)),
    runSteps_crc rfl rfl ((((henv.afterBytes _).afterBytes _).afterBytes _).afterBytes _)]
  simp only [frameBytes, Env.afterBytes_append, ← crc16_crcInput]
  simp [State.sent]

/-- Settles O51: the runs of the five fields, one after another. -/
theorem aFrameTakes137Steps : Obligations.AFrameTakes137Steps :=
  fun _ hst hi hr ha => ⟨_, runSteps_frame hst hi ⟨hr, ha⟩, rfl, rfl, rfl, rfl, rfl, rfl, rfl, rfl, rfl, rfl⟩

end Sys2Proof.Machine
end

section
/-! PROOFS of the family 20_memory: a scan, cycle by cycle. A cycle is the run from CYC_CMD through CYC_DEC. -/

namespace Sys2Proof.Machine

variable {s : State}

/-! The environment while a scan runs. -/

/-- What the run of a scan asks of its environment: no reset, and each bus transaction completes. -/
def Env.letsScanRun (e : Env) : Prop := e.noReset ∧ e.busCompletes

/-- The environment after a step that issued the bus write `w`. -/
def Env.afterWrite (w : BusEvent) (e : Env) : Env :=
  { e with busWr := e.busWr.tail, busLog := e.busLog ++ [w], resetIn := e.resetIn.tail }

/-- The environment after a step that issued the bus read `r`. -/
def Env.afterRead (r : BusEvent) (e : Env) : Env :=
  { e with busRd := e.busRd.tail, busLog := e.busLog ++ [r], resetIn := e.resetIn.tail }

theorem Env.letsScanRun.afterBoundary {e : Env} (h : e.letsScanRun) : e.afterBoundary.letsScanRun :=
  ⟨h.1.of_tail rfl, h.2.of_tail (.inl rfl) (.inl rfl)⟩

theorem Env.letsScanRun.afterWrite {e : Env} (h : e.letsScanRun) (w : BusEvent) : (e.afterWrite w).letsScanRun :=
  ⟨h.1.of_tail rfl, h.2.of_tail (.inl rfl) (.inr rfl)⟩

theorem Env.letsScanRun.afterRead {e : Env} (h : e.letsScanRun) (r : BusEvent) : (e.afterRead r).letsScanRun :=
  ⟨h.1.of_tail rfl, h.2.of_tail (.inr rfl) (.inl rfl)⟩

/-- The record of the request of cycle `c` (42_cycle_reader.md R131). -/
def requestEvent (p : Params) (c : BitVec 4) : BusEvent := .write p.busAddr [0x01#8, 0x00#8, c.setWidth 8] true

/-- The record of a read of `n` bytes that meets these answers (42_cycle_reader.md R134). -/
def readEvent (p : Params) (n : Nat) (answers : List ReadAnswer) : BusEvent :=
  .read p.busAddr n (nextBytes p.respCountMode n answers).length

theorem fullResponse_iff (mode : RespCountMode) (answers : List ReadAnswer) :
    fullResponse mode answers = true ↔ (nextBytes mode 22 answers).length = 22 := beq_iff_eq

theorem cycleEvents_of_full {p : Params} {answers : List ReadAnswer} (h : fullResponse p.respCountMode answers = true)
    (c : BitVec 4) : cycleEvents p answers c = [requestEvent p c, readEvent p 22 answers] := by
  simp [cycleEvents, h, requestEvent, readEvent]

theorem cycleEvents_of_other {p : Params} {answers : List ReadAnswer} (h : fullResponse p.respCountMode answers = false)
    (c : BitVec 4) :
    cycleEvents p answers c = [requestEvent p c, readEvent p 22 answers, readEvent p 10 answers.tail] := by
  simp [cycleEvents, h, requestEvent, readEvent]

/-! The steps of a cycle. -/

theorem step_cycCmd (hst : s.st = .cycCmd) (henv : s.env.letsScanRun) :
    step s = .next { s with st := .cycRd22, env := s.env.afterWrite (requestEvent s.params s.c) } := by
  obtain ⟨a, answer⟩ : ∃ a, s.sampleReset.writeAnswer = .completes a := henv.2.write
  rw [step_of_no_reset henv.1.notOffered, operation, State.sampleReset_st, hst]
  simp only [exec, execReadCycle, busWrite, answer]
  rfl

/-- A step whose operation is a bus read goes on with the bytes of the scan's function of the answers. -/
theorem step_of_read (henv : s.env.letsScanRun) {n : Nat} {k : List Byte → State → State}
    (hop : operation s.sampleReset = busRead n k s.sampleReset) :
    step s = .next (k (nextBytes s.params.respCountMode n s.env.busRd)
      { s with env := s.env.afterRead (readEvent s.params n s.env.busRd) }) := by
  obtain ⟨listed, answer, same⟩ := henv.afterBoundary.2.read (s := s.sampleReset)
  have bytes : delivered s.sampleReset.params.respCountMode n listed =
    nextBytes s.params.respCountMode n s.env.busRd := same n
  rw [step_of_no_reset henv.1.notOffered, hop, busRead, answer]
  simp only [bytes]
  rfl

theorem step_cycRd22 (hst : s.st = .cycRd22) (henv : s.env.letsScanRun) :
    step s = .next (afterFullRead (nextBytes s.params.respCountMode 22 s.env.busRd)
      { s with env := s.env.afterRead (readEvent s.params 22 s.env.busRd) }) :=
  step_of_read henv (by rw [operation, State.sampleReset_st, hst]; rfl)

theorem step_cycRd10 (hst : s.st = .cycRd10) (henv : s.env.letsScanRun) :
    step s = .next (afterFallbackRead (nextBytes s.params.respCountMode 10 s.env.busRd)
      { s with env := s.env.afterRead (readEvent s.params 10 s.env.busRd) }) :=
  step_of_read henv (by rw [operation, State.sampleReset_st, hst]; rfl)

theorem step_cycDec (hst : s.st = .cycDec) (henv : s.env.letsScanRun) : step s = .next (cycDec s.sampleReset) := by
  rw [step_of_no_reset henv.1.notOffered, operation, State.sampleReset_st, hst]

/-! The reads of a cycle. -/

/-- From `e` to `e'` the environment has answered the bus transactions of cycle `c`, and nothing else has happened at the
ports (20_memory.md R61). -/
structure Env.ServedCycle (p : Params) (c : BitVec 4) (e e' : Env) : Prop where
  busLog : e'.busLog = e.busLog ++ cycleEvents p e.busRd c
  busRd : e'.busRd = answersAfterCycle p.respCountMode e.busRd
  txOut : e'.txOut = e.txOut
  cmdIn : e'.cmdIn = e.cmdIn
  txPort : e'.txPort = e.txPort
  letsScanRun : e'.letsScanRun

/-- A cycle up to its decode: two or three transactions, after which the cycle's one response is kept. -/
theorem runSteps_cycle_reads (hst : s.st = .cycCmd) (henv : s.env.letsScanRun) :
    ∃ (n : Nat) (e : Env), n ≤ 3 ∧ Env.ServedCycle s.params s.c s.env e ∧
      runSteps n s = .next ((State.keepResponse (cycleResponse s.params.respCountMode s.env.busRd)
        { s with env := e }).goto .cycDec) := by
  have requested := henv.afterWrite (requestEvent s.params s.c)
  have request := step_cycCmd hst henv
  have full := step_cycRd22
    (s := { s with st := .cycRd22, env := s.env.afterWrite (requestEvent s.params s.c) }) rfl requested
  cases hfull : fullResponse s.params.respCountMode s.env.busRd with
  | true =>
    refine ⟨2, (s.env.afterWrite (requestEvent s.params s.c)).afterRead (readEvent s.params 22 s.env.busRd), by omega,
      ⟨?_, ?_, rfl, rfl, rfl, requested.afterRead _⟩, ?_⟩
    · simp [Env.afterRead, Env.afterWrite, cycleEvents_of_full hfull]
    · simp [Env.afterRead, Env.afterWrite, answersAfterCycle, hfull]
    · rw [runSteps_succ request, runSteps_succ full, cycleResponse, if_pos hfull]
      exact congrArg _ (afterFullRead_of_full ((fullResponse_iff ..).mp hfull) _)
  | false =>
    have other : (nextBytes s.params.respCountMode 22 s.env.busRd).length ≠ 22 := fun h => by
      simp [(fullResponse_iff ..).mpr h] at hfull
    have fallback := step_cycRd10
      (s := { s with
        st := .cycRd10
        env := (s.env.afterWrite (requestEvent s.params s.c)).afterRead (readEvent s.params 22 s.env.busRd) })
      rfl (requested.afterRead _)
    have full := full.trans (congrArg _ (afterFullRead_of_other other _))
    refine ⟨3, ((s.env.afterWrite (requestEvent s.params s.c)).afterRead (readEvent s.params 22 s.env.busRd)).afterRead
      (readEvent s.params 10 s.env.busRd.tail), by omega,
      ⟨?_, ?_, rfl, rfl, rfl, (requested.afterRead _).afterRead _⟩, ?_⟩
    · simp [Env.afterRead, Env.afterWrite, cycleEvents_of_other hfull]
    · simp [Env.afterRead, Env.afterWrite, answersAfterCycle, hfull]
    · rw [runSteps_succ request, runSteps_succ full, cycleResponse, hfull]
      exact runSteps_succ fallback

end Sys2Proof.Machine
end

section
/-! PROOFS of the family 20_memory: what the decode of a cycle leaves, and the scan as 16 cycles. -/

namespace Sys2Proof.Machine

variable {s t : State}

/-! The decode of the response kept. -/

theorem elementPresent_of_short {rlen : Byte} (h : rlen.toNat < 10) (k : BitVec 2) : elementPresent rlen k = false := by
  rw [← Bool.not_eq_true, elementPresent_iff]
  omega

theorem decodeElement_of_short (h : s.rlen.toNat < 10) (k : BitVec 2) : decodeElement k s = s := by
  rw [decodeElement, elementPresent_of_short h, if_neg Bool.false_ne_true]

theorem decodeElements_of_short (h : s.rlen.toNat < 10) : decodeElements s = s := by
  simp only [decodeElements, decodeElement_of_short h]

/-- Both branches of CYC_DEC at once: a short response has no element to write. -/
theorem cycDec_eq (s : State) :
    cycDec s = scanAdvance ((decodeElements s).setCycleOk s.c (decide (10 ≤ s.rlen.toNat))) := by
  by_cases h : s.rlen.toNat < 10
  · rw [cycDec_short h, decodeElements_of_short h, decide_eq_false (by omega)]
  · rw [cycDec_enough (by omega), decide_eq_true (by omega)]

theorem cycDec_buf (s : State) : (cycDec s).buf = (decodeElements s).buf := by
  rw [cycDec_eq, scanAdvance_buf, State.setCycleOk_buf]

theorem cycDec_status (hs : s.params.hasCycleStatus = true) (j : BitVec 4) :
    (cycDec s).cycleOk.getLsbD j.toNat = if j = s.c then decide (10 ≤ s.rlen.toNat) else s.cycleOk.getLsbD j.toNat := by
  rw [cycDec_eq, scanAdvance_cycleOk, State.setCycleOk_getLsbD _ (by simpa using hs), decodeElements_cycleOk]

theorem cycDec_last (h : s.c = 15#4) : (cycDec s).st = .frmHdr ∧ (cycDec s).i = 0#8 := by
  rw [cycDec_eq, scanAdvance_last (by simpa using h)]
  exact ⟨rfl, rfl⟩

theorem cycDec_other (h : s.c ≠ 15#4) : (cycDec s).st = .cycCmd ∧ (cycDec s).c = s.c + 1#4 := by
  rw [cycDec_eq, scanAdvance_other (by simpa using h)]
  simp

/-- CYC_DEC of a cycle whose entries are still zero, entry by entry. -/
theorem cycDec_entry (hzero : s.cycleZero s.c) (c : BitVec 4) (k : BitVec 2) :
    (cycDec s).buf[(mapIndex c k).toNat]'(mapIndex c k).isLt =
      if c = s.c then (if elementPresent s.rlen k = true then elementValue s.rbuf k else 0#16)
      else s.buf[(mapIndex c k).toNat]'(mapIndex c k).isLt := by
  rw [getElem_congr_coll (cycDec_buf s)]
  split
  · next hc => rw [hc, decodeElements_get_map, hzero k]
  · next hc => exact decodeElements_get_other s c k hc

/-- The kept length of a response decides the bounds of the decode as its own length does. -/
theorem le_keptLength_iff {n : Nat} (hn : n ≤ 255) (l : List Byte) :
    n ≤ (BitVec.ofNat 8 (min l.length 255)).toNat ↔ n ≤ l.length := by
  simp only [BitVec.toNat_ofNat]
  omega

theorem keepResponse_present_iff (s : State) (l : List Byte) (k : BitVec 2) :
    elementPresent (s.keepResponse l).rlen k = true ↔ 6 + 4 * k.toNat + 3 < l.length := by
  have hk := k.isLt
  rw [elementPresent_iff, State.keepResponse_rlen, le_keptLength_iff (by omega)]
  omega

theorem keepResponse_rbuf_getD (s : State) (l : List Byte) {j : Nat} (hj : j < 22) (hl : j < l.length) :
    (s.keepResponse l).rbuf.toList.getD j 0#8 = l.getD j 0#8 := by
  rw [rbuf_getD _ hj, getElem_congr_coll (State.keepResponse_rbuf s l), Vector.getElem_ofFn,
    List.getD_eq_getElem _ _ hl, List.getD_eq_getElem _ _ hl]

/-- What the decode writes for sub-slot `k` of a kept response, over an entry of 0, is the reading of that sub-slot. -/
theorem keepResponse_reading (s : State) (l : List Byte) (k : BitVec 2) :
    (if elementPresent (s.keepResponse l).rlen k = true then elementValue (s.keepResponse l).rbuf k else 0#16) =
      responseReading l k := by
  have hk := k.isLt
  rw [responseReading, if_congr (keepResponse_present_iff s l k) rfl rfl]
  refine ite_congr rfl (fun h => ?_) fun _ => rfl
  rw [← keepResponse_rbuf_getD s l (by omega) (by omega), ← keepResponse_rbuf_getD s l (by omega) (by omega),
    ← elementValue_toNat, BitVec.ofNat_toNat, BitVec.setWidth_eq]

/-! The scan. -/

/-- `t` is the block after the first `j` cycles of the scan that began in `s`: at the start of cycle `j`, or of the frame
once all 16 are done; the cycles done have left what 43_scan_aggregator.md R162 says, and the others zeros. -/
structure State.CyclesDone (s : State) (j : Nat) (t : State) : Prop where
  scanning : j < 16 → t.st = .cycCmd ∧ t.c = BitVec.ofNat 4 j
  ended : j = 16 → t.st = .frmHdr ∧ t.i = 0#8
  entries : ∀ (c : BitVec 4) (k : BitVec 2), t.buf[(mapIndex c k).toNat]'(mapIndex c k).isLt =
    if c.toNat < j then responseReading (scanResponse s.params.respCountMode s.env.busRd c.toNat) k else 0#16
  status : s.params.hasCycleStatus = true → ∀ c : BitVec 4, t.cycleOk.getLsbD c.toNat =
    if c.toNat < j then decide (10 ≤ (scanResponse s.params.respCountMode s.env.busRd c.toNat).length) else false
  busLog : t.env.busLog = s.env.busLog ++
    (List.range j).flatMap fun j => cycleEvents s.params (answersBefore s.params.respCountMode j s.env.busRd)
      (BitVec.ofNat 4 j)
  busRd : t.env.busRd = answersBefore s.params.respCountMode j s.env.busRd
  seq : t.seq = s.seq
  params : t.params = s.params
  txOut : t.env.txOut = s.env.txOut
  cmdIn : t.env.cmdIn = s.env.cmdIn
  txPort : t.env.txPort = s.env.txPort
  letsScanRun : t.env.letsScanRun

theorem step_scanInit (hst : s.st = .scanInit) (henv : s.env.letsScanRun) : step s = .next (scanInit s.sampleReset) := by
  rw [step_of_no_reset henv.1.notOffered, operation, State.sampleReset_st, hst]

theorem cyclesDone_zero (henv : s.env.letsScanRun) : s.CyclesDone 0 (scanInit s.sampleReset) where
  scanning _ := ⟨rfl, rfl⟩
  ended := nofun
  entries c k := by simp
  status hs c := by simp [hs]
  busLog := by simp
  busRd := rfl
  seq := rfl
  params := rfl
  txOut := rfl
  cmdIn := rfl
  txPort := rfl
  letsScanRun := henv.afterBoundary

theorem toNat_lt_succ_iff {j : Nat} (hj : j < 16) (c : BitVec 4) :
    c.toNat < j + 1 ↔ c = BitVec.ofNat 4 j ∨ c.toNat < j := by
  rw [← BitVec.toNat_inj, BitVec.toNat_ofNat]
  omega

/-- The block in CYC_DEC of its current cycle, the response of that cycle kept and the environment `e`. -/
def State.aboutToDecode (t : State) (e : Env) : State :=
  (State.keepResponse (cycleResponse t.params.respCountMode t.env.busRd) { t with env := e }).goto .cycDec

/-- The decode of cycle `j` leaves `j + 1` cycles done. -/
theorem State.CyclesDone.decode {j : Nat} {e : Env} (h : s.CyclesDone j t) (hj : j < 16)
    (served : Env.ServedCycle t.params t.c t.env e) :
    s.CyclesDone (j + 1) (cycDec (t.aboutToDecode e).sampleReset) := by
  obtain ⟨-, hc⟩ := h.scanning hj
  have response : cycleResponse t.params.respCountMode t.env.busRd =
      scanResponse s.params.respCountMode s.env.busRd j := by rw [h.params, h.busRd, scanResponse]
  have hj4 : (BitVec.ofNat 4 j).toNat = j := by rw [BitVec.toNat_ofNat]; omega
  have hlt : ∀ c : BitVec 4, c.toNat < j + 1 ↔ c = BitVec.ofNat 4 j ∨ c.toNat < j := toNat_lt_succ_iff hj
  have zero : (t.aboutToDecode e).sampleReset.cycleZero t.c := fun k =>
    (h.entries t.c k).trans (if_neg (by rw [hc, hj4]; omega))
  have hcd : (t.aboutToDecode e).sampleReset.c = BitVec.ofNat 4 j := hc
  exact
  { scanning := fun hj' => by
      obtain ⟨hst', hc'⟩ := cycDec_other (by rw [hcd]; bv_omega)
      exact ⟨hst', by rw [hc', hcd, BitVec.ofNat_add]⟩
    ended := fun hj' => cycDec_last (by rw [hcd, Nat.succ.inj hj'])
    entries := fun c k => by
      rw [cycDec_entry zero, hcd]
      by_cases hcj : c = BitVec.ofNat 4 j
      · rw [if_pos hcj, if_pos ((hlt c).mpr (.inl hcj)), hcj, hj4, ← response]
        exact keepResponse_reading { t with env := e } (cycleResponse t.params.respCountMode t.env.busRd) k
      · rw [if_neg hcj, if_congr ((hlt c).trans (or_iff_right hcj)) rfl rfl]
        exact h.entries c k
    status := fun hs c => by
      have hsd : (t.aboutToDecode e).sampleReset.params.hasCycleStatus = true := h.params ▸ hs
      rw [cycDec_status hsd, hcd]
      by_cases hcj : c = BitVec.ofNat 4 j
      · rw [if_pos hcj, if_pos ((hlt c).mpr (.inl hcj)), hcj, hj4, ← response]
        exact decide_eq_decide.mpr (le_keptLength_iff (by omega) (cycleResponse t.params.respCountMode t.env.busRd))
      · rw [if_neg hcj, if_congr ((hlt c).trans (or_iff_right hcj)) rfl rfl]
        exact h.status hs c
    busLog := by
      rw [cycDec_env]
      refine served.busLog.trans ?_
      rw [h.busLog, h.busRd, h.params, hc, List.range_succ, List.flatMap_append]
      simp
    busRd := by
      rw [cycDec_env, answersBefore_succ, ← h.busRd, ← h.params]
      exact served.busRd
    seq := by rw [cycDec_seq]; exact h.seq
    params := by rw [cycDec_params]; exact h.params
    txOut := by rw [cycDec_env]; exact served.txOut.trans h.txOut
    cmdIn := by rw [cycDec_env]; exact served.cmdIn.trans h.cmdIn
    txPort := by rw [cycDec_env]; exact served.txPort.trans h.txPort
    letsScanRun := by rw [cycDec_env]; exact served.letsScanRun.afterBoundary }

/-- One cycle more, in at most 4 steps: the request, one or two reads, the decode. -/
theorem State.CyclesDone.succ {j : Nat} (h : s.CyclesDone j t) (hj : j < 16) :
    ∃ (n : Nat) (u : State), n ≤ 4 ∧ runSteps n t = .next u ∧ s.CyclesDone (j + 1) u := by
  obtain ⟨hst, -⟩ := h.scanning hj
  obtain ⟨n, e, hn, served, reads⟩ := runSteps_cycle_reads hst h.letsScanRun
  have decode := step_cycDec (s := t.aboutToDecode e) rfl served.letsScanRun
  exact ⟨n + 1, _, by omega, (runSteps_add reads).trans (runSteps_succ decode), h.decode hj served⟩

/-- The run of `j` cycles, each of at most 4 steps, after the one of SCAN_INIT. -/
theorem runSteps_cycles (hst : s.st = .scanInit) (henv : s.env.letsScanRun) (j : Nat) (hj : j ≤ 16) :
    ∃ (n : Nat) (t : State), n ≤ 1 + 4 * j ∧ runSteps n s = .next t ∧ s.CyclesDone j t := by
  induction j with
  | zero => exact ⟨1, _, by omega, runSteps_succ (step_scanInit hst henv), cyclesDone_zero henv⟩
  | succ j ih =>
    obtain ⟨n, t, hn, run, done⟩ := ih (by omega)
    obtain ⟨m, u, hm, cycle, done⟩ := done.succ (by omega)
    exact ⟨n + m, u, by omega, (runSteps_add run).trans cycle, done⟩

/-- Settles O52: SCAN_INIT, then 16 cycles of at most 4 steps each. -/
theorem aScanCollectsEveryCycle : Obligations.AScanCollectsEveryCycle := by
  intro s hst hr hb
  obtain ⟨n, t, hn, run, done⟩ := runSteps_cycles hst ⟨hr, hb⟩ 16 (by omega)
  obtain ⟨hfrm, hi⟩ := done.ended rfl
  refine ⟨n, t, by omega, run, hfrm, hi, fun c k => ?_, fun hs c => ?_, done.busLog, done.busRd, done.seq, done.params,
    done.txOut, done.cmdIn, done.txPort⟩
  · rw [done.entries, if_pos c.isLt]
  · rw [done.status hs, if_pos c.isLt]

end Sys2Proof.Machine
end

section
/-! PROOFS of the family 30_encoding: the decoder and the encoder undo each other, byte map by byte map. -/

namespace Sys2Proof

/-! The command byte map (30_encoding.md R71). -/

theorem Instr.wf_discard_iff (b : Byte) : (Instr.discard b).wf = true ↔ b ≠ trigLower ∧ b ≠ trigUpper := by
  simp [Instr.wf, trigLower, trigUpper]

theorem decodeCommand_of_discard_wf {b : Byte} (h : (Instr.discard b).wf = true) : decodeCommand b = .discard b := by
  obtain ⟨hl, hu⟩ := (Instr.wf_discard_iff b).mp h
  rw [decodeCommand, if_neg hl, if_neg hu]

/-- Every command byte is one of the three rows of the map. -/
theorem command_byte_cases (b : Byte) : b = trigLower ∨ b = trigUpper ∨ (Instr.discard b).wf = true := by
  rw [Instr.wf_discard_iff]
  tauto

/-- A command byte is the encoding of the well-formed instruction the map gives it. -/
theorem encode_decodeCommand (b : Byte) :
    (decodeCommand b).wf = true ∧ (decodeCommand b).format = .cmd ∧ encode (decodeCommand b) = [b] := by
  obtain rfl | rfl | hwf := command_byte_cases b
  · exact ⟨rfl, rfl, rfl⟩
  · exact ⟨rfl, rfl, rfl⟩
  · rw [decodeCommand_of_discard_wf hwf]
    exact ⟨hwf, rfl, rfl⟩

/-! The bus request (30_encoding.md R72). -/

/-- The byte of cycle `c` is the one whose high nibble is 0 and whose low nibble is `c`. -/
theorem cycleByte_iff (b : Byte) (c : BitVec 4) :
    b = c.setWidth 8 ↔ b.extractLsb' 4 4 = 0#4 ∧ b.extractLsb' 0 4 = c := by
  have hb := b.isLt
  have hc := c.isLt
  simp only [← BitVec.toNat_inj, BitVec.toNat_setWidth, BitVec.extractLsb'_toNat, BitVec.toNat_ofNat,
    Nat.shiftRight_eq_div_pow]
  omega

/-- The request decoder accepts exactly the encodings of the 16 requests. -/
theorem decodeRequest_eq_ok_iff {b0 b1 b2 : Byte} {rest r : List Byte} {i : Instr} :
    decodeRequest b0 b1 b2 rest = .ok i r ↔ ∃ c : BitVec 4, i = .readCycle c ∧ [b0, b1, b2] = encode i ∧ r = rest := by
  constructor
  · unfold decodeRequest
    split_ifs with h0 h1 h2
    · exact nofun
    · exact nofun
    · exact nofun
    · rintro ⟨⟩
      have hcycle := (cycleByte_iff b2 _).mpr ⟨not_not.mp h2, rfl⟩
      exact ⟨_, rfl, by rw [encode, ← hcycle, not_not.mp h0, not_not.mp h1], rfl⟩
  · rintro ⟨c, rfl, ⟨⟩, rfl⟩
    obtain ⟨high, low⟩ := (cycleByte_iff _ c).mp rfl
    simp [decodeRequest, high, low]

/-! Both directions, format by format. -/

/-- Settles O3: by the byte map for a command, by the layout of the request for a cycle. -/
theorem decodeOfEncode : Obligations.DecodeOfEncode := by
  intro i rest hwf
  cases i with
  | scanLower => rfl
  | scanUpper => rfl
  | discard b => exact congrArg (Decoded.ok · rest) (decodeCommand_of_discard_wf hwf)
  | readCycle c => exact decodeRequest_eq_ok_iff.mpr ⟨c, rfl, rfl, rfl⟩

/-- Settles O4: the branches of `decode` that accept are one command byte and three bytes of a request. -/
theorem encodeOfDecode : Obligations.EncodeOfDecode := by
  intro f bytes rest i h
  match f, bytes, h with
  | .cmd, b :: _, rfl =>
    obtain ⟨hwf, hformat, henc⟩ := encode_decodeCommand b
    exact ⟨hwf, hformat, by rw [henc, List.singleton_append]⟩
  | .busreq, b0 :: b1 :: b2 :: _, h =>
    obtain ⟨c, rfl, henc, rfl⟩ := decodeRequest_eq_ok_iff.mp h
    exact ⟨rfl, rfl, by rw [← henc]; rfl⟩

/-- Settles O2: `decodeCommand` compares the whole byte with the two triggers, in that order. -/
theorem everyCommandByteDecodes : Obligations.EveryCommandByteDecodes := fun _ _ => rfl

/-- Settles O1: each word evaluated through the table's word convention. -/
theorem tableWordsDecode : Obligations.TableWordsDecode :=
  ⟨rfl, rfl, rfl, rfl, rfl, rfl, rfl, rfl, rfl, rfl⟩

end Sys2Proof
end

section
/-! PROOFS of the family 30_encoding: the layout of a frame and the input of its checksum. -/

namespace Sys2Proof.Machine

section
variable (f : Byte) (buf : Vector Word 64)

/-- The frame as what precedes the payload, the payload and the trailer (30_encoding.md R75). -/
theorem frameBytes_eq :
    frameBytes f buf = (header ++ lengthField ++ [f]) ++ (payload buf ++ leBytes (crc16 (crcInput f buf))) := by
  simp [frameBytes]

theorem frameBytes_take_seven : (frameBytes f buf).take 7 = header ++ lengthField ++ [f] := by
  rw [frameBytes_eq, List.take_left' (by simp)]

theorem frameBytes_drop_135 : (frameBytes f buf).drop 135 = leBytes (crc16 (crcInput f buf)) :=
  List.drop_left' (by simp)

theorem frameBytes_payload_getElem? {n : Nat} (h : n < 128) :
    (frameBytes f buf)[7 + n]? = some (payloadByte buf (BitVec.ofNat 7 n)) := by
  have inside : 7 + n < (frameBytes f buf).length := by rw [frameBytes_length]; omega
  rw [List.getElem?_eq_getElem inside, ← List.getD_eq_getElem _ 0#8 inside, frameBytes_payload f buf h]

end

theorem leBytes_eq (v : Word) : leBytes v = [v.setWidth 8, (v >>> 8).setWidth 8] := by
  rw [leBytes, lowByte_eq, highByte_eq]

/-- Settles O18: the two ends as lists, the payload entry by entry. -/
theorem frameLayout : Obligations.FrameLayout := by
  refine fun f buf => ⟨frameBytes_length f buf, frameBytes_take_seven f buf, fun e h => ⟨?_, ?_⟩, ?_⟩
  · rw [frameBytes_payload_getElem? f buf (by omega), payloadByte_even buf e h, lowByte_eq]
  · rw [show 8 + 2 * e = 7 + (2 * e + 1) by omega, frameBytes_payload_getElem? f buf (by omega),
      payloadByte_odd buf e h, highByte_eq]
  · rw [frameBytes_drop_135, leBytes_eq]
    rfl

end Sys2Proof.Machine
end

section
/-! PROOFS of the family 40_crc16: the engine takes in what is added to the register bit by bit, and is injective. -/

namespace Sys2Proof.Machine

/-! One iteration (40_crc16.md R102). -/

theorem crcShift1_of_top_set {crc : Word} (h : crc.getLsbD 15 = true) : crcShift1 crc = (crc <<< 1) ^^^ crcPoly :=
  if_pos h

theorem crcShift1_of_top_clear {crc : Word} (h : crc.getLsbD 15 = false) : crcShift1 crc = crc <<< 1 :=
  if_neg (Bool.eq_false_iff.mp h)

/-- Settles O11: the two branches of the definition. -/
theorem crcShiftTestsTheTopBit : Obligations.CrcShiftTestsTheTopBit :=
  fun _ => ⟨crcShift1_of_top_set, crcShift1_of_top_clear⟩

/-- Settles O12: each value evaluated. -/
theorem crcCheckValues : Obligations.CrcCheckValues := by
  unfold Obligations.CrcCheckValues
  decide +kernel

/-! The bit-serial form: the message enters one bit at a time instead of a byte at a time. -/

/-- One bit-serial step (40_crc16.md R100): the bit shifted out of the register is compared with the message bit. -/
def crcAbsorbBit (r : Word) (m : Bool) : Word := if r.getLsbD 15 != m then (r <<< 1) ^^^ crcPoly else r <<< 1

/-- An iteration on a register with a message added to it takes in the message's top bit and moves the rest up. -/
theorem crcShift1_xor (r w : Word) : crcShift1 (r ^^^ w) = crcAbsorbBit r (w.getMsbD 0) ^^^ (w <<< 1) := by
  have top : (r ^^^ w).getLsbD 15 = (r.getLsbD 15 != w.getMsbD 0) := BitVec.getLsbD_xor
  rw [crcShift1, crcAbsorbBit, top, BitVec.shiftLeft_xor_distrib]
  split
  · rw [BitVec.xor_assoc, BitVec.xor_comm _ crcPoly, BitVec.xor_assoc]
  · rfl

/-- `n` iterations take in the message's `n` top bits, the most significant first. -/
theorem crcShifts_xor (n : Nat) (r w : Word) :
    crcShifts n (r ^^^ w) = (List.range n).foldl (fun r i => crcAbsorbBit r (w.getMsbD i)) r ^^^ (w <<< n) := by
  induction n generalizing r w with
  | zero => simp [crcShifts]
  | succ n ih =>
    rw [crcShifts, crcShift1_xor, ih, List.range_succ_eq_map, List.foldl_cons, List.foldl_map, ← BitVec.shiftLeft_add,
      Nat.add_comm 1 n]
    simp

/-- The byte a register takes in stands at the message's top (40_crc16.md R103). -/
theorem byte_at_top_getMsbD (b : Byte) (i : Nat) : (b.setWidth 16 <<< 8 : Word).getMsbD i = b.getMsbD i := by simp

theorem crcByte_eq_foldl (crc : Word) (b : Byte) :
    crcByte crc b = (List.range 8).foldl (fun r i => crcAbsorbBit r (b.getMsbD i)) crc := by
  have usedUp : (b.setWidth 16 <<< 8 : Word) <<< 8 = 0#16 := by rw [← BitVec.shiftLeft_add]; simp
  rw [crcByte, crcShifts_xor, usedUp, BitVec.xor_zero]
  simp only [byte_at_top_getMsbD]

/-- Settles O10: 8 iterations take in the top 8 bits of the message added to the register, which are the byte's,
its bit `i` from the top being its bit `7 - i`. -/
theorem crcByteIsBitSerialMsbFirst : Obligations.CrcByteIsBitSerialMsbFirst := crcByte_eq_foldl

/-! Injectivity (40_crc16.md R106). -/

/-- The polynomial's lowest bit is set, so the bit shifted out comes back at the bottom. -/
theorem crcShift1_getLsbD_zero (crc : Word) : (crcShift1 crc).getLsbD 0 = crc.getLsbD 15 := by
  cases h : crc.getLsbD 15
  · simp [crcShift1_of_top_clear h]
  · simp [crcShift1_of_top_set h, crcPoly]

/-- What a shift by one loses of a register is its top bit. -/
theorem eq_of_shiftLeft_one_eq {x y : Word} (top : x.getLsbD 15 = y.getLsbD 15) (h : x <<< 1 = y <<< 1) : x = y := by
  refine BitVec.eq_of_getMsbD_eq fun i _ => ?_
  cases i with
  | zero => exact top
  | succ i => simpa using congrArg (BitVec.getMsbD · i) h

/-- The bit at the bottom tells whether the polynomial was added, and what the shift lost (40_crc16.md R102). -/
theorem crcShift1_injective : Function.Injective crcShift1 := by
  intro x y h
  have top : x.getLsbD 15 = y.getLsbD 15 := by rw [← crcShift1_getLsbD_zero, h, crcShift1_getLsbD_zero]
  refine eq_of_shiftLeft_one_eq top ?_
  cases hy : y.getLsbD 15
  · rwa [crcShift1_of_top_clear (top.trans hy), crcShift1_of_top_clear hy] at h
  · rwa [crcShift1_of_top_set (top.trans hy), crcShift1_of_top_set hy, BitVec.xor_left_inj] at h

theorem crcShifts_injective (n : Nat) : Function.Injective (crcShifts n) := by
  induction n with
  | zero => exact Function.injective_id
  | succ n ih => exact ih.comp crcShift1_injective

/-- One byte taken into two registers that differ leaves them different. -/
theorem crcByte_left_injective (b : Byte) : Function.Injective (crcByte · b) := fun _ _ h =>
  (BitVec.xor_left_inj _).mp (crcShifts_injective 8 h)

/-- Two bytes that differ, taken into one register, leave it different. -/
theorem crcByte_right_injective (crc : Word) : Function.Injective (crcByte crc) := by
  intro b b' h
  have atTop := (BitVec.xor_right_inj crc).mp (crcShifts_injective 8 h)
  refine BitVec.eq_of_getMsbD_eq fun i _ => ?_
  rw [← byte_at_top_getMsbD, atTop, byte_at_top_getMsbD]

theorem foldl_crcByte_injective (l : List Byte) : Function.Injective (l.foldl crcByte) := by
  induction l with
  | nil => exact Function.injective_id
  | cons b l ih => exact ih.comp (crcByte_left_injective b)

/-- Settles O13: the differing byte separates the registers, and the common bytes after it keep them apart. -/
theorem singleByteErrorsAreDetected : Obligations.SingleByteErrorsAreDetected := by
  intro before after b b' hne h
  simp only [crc16, List.foldl_append, List.foldl_cons] at h
  exact hne (crcByte_right_injective _ (foldl_crcByte_injective after h))

end Sys2Proof.Machine
end

section
/-! PROOFS of the family 41_index_map: MAP and MAP_INV as formulas over numbers, from which their bit forms and the bijection
follow. -/

namespace Sys2Proof.Machine

/-! The numbers behind the words. -/

/-- Over numbers, the upper part of a concatenation stands above the lower one's `v` bits. -/
theorem toNat_append_eq_add {w v : Nat} (x : BitVec w) (y : BitVec v) :
    (x ++ y).toNat = x.toNat * 2 ^ v + y.toNat := by
  rw [BitVec.toNat_append, ← Nat.shiftLeft_add_eq_or_of_lt y.isLt, Nat.shiftLeft_eq]

/-- The formula over numbers (41_index_map.md R120): the sum is below 64, so the 6-bit arithmetic does not wrap. -/
theorem mapIndex_toNat (c : BitVec 4) (k : BitVec 2) :
    (mapIndex c k).toNat = 8 * (c.toNat / 2) + 2 * k.toNat + c.toNat % 2 := by
  simp only [mapIndex, BitVec.toNat_add, BitVec.toNat_mul, BitVec.toNat_setWidth, BitVec.toNat_ushiftRight, BitVec.toNat_and,
    BitVec.toNat_ofNat, Nat.shiftRight_eq_div_pow, Nat.reducePow, Nat.reduceMod, Nat.and_one_is_mod]
  omega

/-- The cycle of an index over numbers (41_index_map.md R122). -/
theorem mapInverse_fst_toNat (e : BitVec 6) : (mapInverse e).1.toNat = 2 * (e.toNat / 8) + e.toNat % 2 := by
  simp only [mapInverse, BitVec.toNat_add, BitVec.toNat_mul, BitVec.toNat_setWidth, BitVec.toNat_ushiftRight,
    BitVec.toNat_and, BitVec.toNat_ofNat, Nat.shiftRight_eq_div_pow, Nat.reducePow, Nat.reduceMod, Nat.and_one_is_mod]
  omega

/-- The sub-slot of an index over numbers (41_index_map.md R122). -/
theorem mapInverse_snd_toNat (e : BitVec 6) : (mapInverse e).2.toNat = e.toNat / 2 % 4 := by
  simp [mapInverse, Nat.shiftRight_eq_div_pow, Nat.and_two_pow_sub_one_eq_mod _ 2]

/-! The bit forms (41_index_map.md R120, R122): both sides have the same number. -/

theorem mapIndex_eq_append (c : BitVec 4) (k : BitVec 2) :
    mapIndex c k = c.extractLsb' 1 3 ++ k ++ c.extractLsb' 0 1 := by
  apply BitVec.eq_of_toNat_eq
  simp only [mapIndex_toNat, toNat_append_eq_add, BitVec.extractLsb'_toNat, Nat.shiftRight_eq_div_pow]
  omega

theorem mapInverse_fst_eq_append (e : BitVec 6) :
    (mapInverse e).1 = e.extractLsb' 3 3 ++ e.extractLsb' 0 1 := by
  apply BitVec.eq_of_toNat_eq
  simp only [mapInverse_fst_toNat, toNat_append_eq_add, BitVec.extractLsb'_toNat, Nat.shiftRight_eq_div_pow]
  omega

theorem mapInverse_snd_eq_extract (e : BitVec 6) : (mapInverse e).2 = e.extractLsb' 1 2 := by
  apply BitVec.eq_of_toNat_eq
  simp only [mapInverse_snd_toNat, BitVec.extractLsb'_toNat, Nat.shiftRight_eq_div_pow]

/-! The two directions of the bijection (41_index_map.md R121), over numbers. -/

theorem mapInverse_mapIndex (c : BitVec 4) (k : BitVec 2) : mapInverse (mapIndex c k) = (c, k) := by
  refine Prod.ext (BitVec.eq_of_toNat_eq ?_) (BitVec.eq_of_toNat_eq ?_)
  · rw [mapInverse_fst_toNat, mapIndex_toNat]
    dsimp only
    omega
  · rw [mapInverse_snd_toNat, mapIndex_toNat]
    dsimp only
    omega

theorem mapIndex_mapInverse (e : BitVec 6) : mapIndex (mapInverse e).1 (mapInverse e).2 = e := by
  apply BitVec.eq_of_toNat_eq
  rw [mapIndex_toNat, mapInverse_fst_toNat, mapInverse_snd_toNat]
  omega

/-- Settles O14: the sum does not wrap, and it weighs the three bit groups by their places. -/
theorem mapFormulaAndBitForm : Obligations.MapFormulaAndBitForm :=
  fun c k => ⟨mapIndex_toNat c k, mapIndex_eq_append c k⟩

/-- Settles O15: the two functions undo each other, their formulas composed over numbers. -/
theorem mapIsABijection : Obligations.MapIsABijection :=
  ⟨mapInverse_mapIndex, mapIndex_mapInverse, fun e => ⟨mapInverse_fst_eq_append e, mapInverse_snd_eq_extract e⟩⟩

end Sys2Proof.Machine
end

section
/-! PROOFS of the family 42_cycle_reader: the request, the two reads and the decode of one cycle, each as one step, and who
writes the buffer. -/

namespace Sys2Proof.Machine

variable {s t : State}

/-! The operation of each state of the cycle reader (10_state.md R28). -/

theorem operation_cycCmd (h : s.st = .cycCmd) : operation s = exec (.readCycle s.c) s := by rw [operation, h]

theorem operation_cycRd22 (h : s.st = .cycRd22) : operation s = busRead 22 afterFullRead s := by
  rw [operation, h]
  rfl

theorem operation_cycRd10 (h : s.st = .cycRd10) : operation s = busRead 10 afterFallbackRead s := by
  rw [operation, h]
  rfl

theorem operation_cycDec (h : s.st = .cycDec) : operation s = .next (cycDec s) := by rw [operation, h]

/-! The request (42_cycle_reader.md R131). -/

/-- Settles O6: the operation of CYC_CMD, after this boundary of the reset input. -/
theorem stepRunsTheBuiltRequest : Obligations.StepRunsTheBuiltRequest := fun _ hr hst =>
  (step_of_no_reset hr).trans (operation_cycCmd hst)

theorem busWrite_of_completes {l : List Byte} {hold a : Bool} {k : State → State} (h : s.writeAnswer = .completes a) :
    busWrite l hold k s = .next (k (s.dropWriteAnswer.record (.write s.params.busAddr l hold))) := by simp only [busWrite, h]

/-- Settles O9: the request is one completed bus write of the encoding of its instruction. -/
theorem requestIsOneHeldBusWrite : Obligations.RequestIsOneHeldBusWrite := fun _ _ _ ha => busWrite_of_completes ha

/-! The range of a read (42_cycle_reader.md R134). -/

theorem maxCount_eq_ite (mode : RespCountMode) (n : Nat) : maxCount mode n = if mode = .bounded then n else 255 := by
  cases mode <;> rfl

theorem delivered_of_length_le {mode : RespCountMode} {n : Nat} {l : List Byte} (h : l.length ≤ maxCount mode n) :
    delivered mode n l = l := List.take_of_length_le h

/-- Settles O22: what is delivered is the first bytes up to the largest count, so all of them where they fit. -/
theorem answersCoverTheSpecRange : Obligations.AnswersCoverTheSpecRange := fun n bytes =>
  ⟨delivered_bounded_length_le n bytes, List.length_take_le 255 bytes,
    delivered_of_length_le (mode := .bounded), delivered_of_length_le (mode := .any)⟩

/-- A read whose answer lies in the range goes on with that answer as it stands. -/
theorem busRead_of_returns {n : Nat} {k : List Byte → State → State} {l : List Byte} (ha : s.readAnswer = .returns l)
    (hl : l.length ≤ maxCount s.params.respCountMode n) :
    busRead n k s = .next (k l (s.dropReadAnswer.record (.read s.params.busAddr n l.length))) := by
  simp only [busRead, ha, delivered_of_length_le hl]

/-- The step of a state whose operation is a read, its answer in the range. -/
theorem step_of_answer_in_range {n : Nat} {k : List Byte → State → State} {l : List Byte} (hr : s.resetOffered = false)
    (hop : operation s.sampleReset = busRead n k s.sampleReset) (ha : s.readAnswer = .returns l)
    (hl : l.length ≤ if s.params.respCountMode = .bounded then n else 255) :
    step s = .next (k l { s with env := s.env.afterRead (.read s.params.busAddr n l.length) }) := by
  rw [step_of_no_reset hr, hop]
  exact busRead_of_returns ha (by rwa [maxCount_eq_ite])

/-! The response kept (42_cycle_reader.md R132, R133). -/

/-- The bytes kept are those returned, up to the 22nd. -/
theorem keepResponse_rbuf_take (s : State) (l : List Byte) :
    (s.keepResponse l).rbuf.toList.take l.length = l.take 22 := by
  refine List.ext_getElem (by simp [Nat.min_comm]) fun j hj hj' => ?_
  have hl : j < l.length := hj'.trans_le (List.length_take_le' ..)
  simp [hl]

/-- A response of exactly 22 bytes is kept whole, and no free value is drawn for it. -/
theorem keepResponse_of_full {l : List Byte} (h : l.length = 22) (s : State) :
    (s.keepResponse l).rbuf.toList = l ∧
      s.keepResponse l = { s with rlen := 22#8, rbuf := (s.keepResponse l).rbuf } := by
  constructor
  · have kept := keepResponse_rbuf_take s l
    rwa [h, List.take_of_length_le (by simp), List.take_of_length_le h.le] at kept
  · simp [State.keepResponse, h]

/-- Settles O20: the answer is delivered as it stands, and CYC_RD22 compares its count with 22. -/
theorem fullReadKeepsExactly22Bytes : Obligations.FullReadKeepsExactly22Bytes := by
  intro s bytes hr hst ha hl env
  have read := step_of_answer_in_range hr (operation_cycRd22 hst) ha hl
  constructor
  · intro h22
    obtain ⟨hkept, hstate⟩ := keepResponse_of_full h22 { s with env := env }
    exact ⟨_, hkept, read.trans (congrArg _ ((afterFullRead_of_full h22 _).trans (congrArg _ hstate)))⟩
  · intro hother
    exact read.trans (congrArg _ (afterFullRead_of_other hother _))

/-- Settles O21: the answer is delivered as it stands, and CYC_RD10 keeps it whatever its count. -/
theorem fallbackReadKeepsWhatCame : Obligations.FallbackReadKeepsWhatCame := by
  intro s bytes hr hst ha hl
  have rlen : (s.keepResponse bytes).rlen = BitVec.ofNat 8 bytes.length := by
    rw [State.keepResponse_rlen, Nat.min_eq_left (by split at hl <;> omega)]
  refine ⟨_, (s.keepResponse bytes).draws, keepResponse_rbuf_take s bytes, ?_⟩
  rw [step_of_answer_in_range hr (operation_cycRd10 hst) ha hl, ← rlen]
  rfl

/-! The decode (42_cycle_reader.md R135, R136) with the scan advance (43_scan_aggregator.md R163). -/

/-- The scan advance writes `st`, and `i` after the last cycle or `c` after any other. -/
theorem scanAdvance_eq (s : State) :
    scanAdvance s =
      { s with
        st := if s.c = 15#4 then .frmHdr else .cycCmd
        c := if s.c = 15#4 then s.c else s.c + 1#4
        i := if s.c = 15#4 then 0#8 else s.i } := by
  by_cases h : s.c = 15#4
  · simp only [scanAdvance_last h, if_pos h]
    rfl
  · simp only [scanAdvance_other h, if_neg h]
    rfl

/-- CYC_DEC writes what the scan advance writes, the buffer and the status, and nothing else. -/
theorem cycDec_frame (s : State) :
    cycDec s =
      { s with
        st := if s.c = 15#4 then .frmHdr else .cycCmd
        c := if s.c = 15#4 then s.c else s.c + 1#4
        i := if s.c = 15#4 then 0#8 else s.i
        buf := (cycDec s).buf
        cycleOk := (cycDec s).cycleOk } := by
  rw [cycDec_buf, cycDec_eq, scanAdvance_cycleOk, scanAdvance_eq, decodeElements_frame]
  rfl

theorem cycDec_status_absent (hs : s.params.hasCycleStatus = false) : (cycDec s).cycleOk = s.cycleOk := by
  simp [cycDec_eq, hs]

theorem step_cycDec_of_no_reset (hr : s.resetOffered = false) (hst : s.st = .cycDec) :
    step s = .next (cycDec s.sampleReset) :=
  (step_of_no_reset hr).trans (operation_cycDec hst)

/-- The step of CYC_DEC, its buffer and status named by the decode. -/
theorem step_cycDec_eq (hr : s.resetOffered = false) (hst : s.st = .cycDec) :
    step s = .next
      { s with
        st := if s.c = 15#4 then .frmHdr else .cycCmd
        c := if s.c = 15#4 then s.c else s.c + 1#4
        i := if s.c = 15#4 then 0#8 else s.i
        buf := (cycDec s.sampleReset).buf
        cycleOk := (cycDec s.sampleReset).cycleOk
        env := s.env.afterBoundary } :=
  (step_cycDec_of_no_reset hr hst).trans (congrArg _ (cycDec_frame s.sampleReset))

/-- Settles O23: a short response holds no element, and its status bit is written 0. -/
theorem shortResponseAbandonsTheCycle : Obligations.ShortResponseAbandonsTheCycle := by
  intro s hr hst hl
  have bit : decide (10 ≤ s.rlen.toNat) = false := decide_eq_false (by omega)
  have buf : (cycDec s.sampleReset).buf = s.buf := by
    rw [cycDec_buf, decodeElements_of_short (s := s.sampleReset) hl, State.sampleReset_buf]
  refine ⟨(cycDec s.sampleReset).cycleOk, fun hs j => ?_, cycDec_status_absent (s := s.sampleReset), ?_⟩
  · rw [← bit]
    exact cycDec_status (s := s.sampleReset) hs j
  · rw [step_cycDec_eq hr hst, buf]

/-- The value of an element over numbers, as the two bytes of the response give it. -/
theorem elementValue_eq_ofNat (rbuf : Vector Byte 22) (k : BitVec 2) :
    elementValue rbuf k = BitVec.ofNat 16
      ((rbuf.toList.getD (8 + 4 * k.toNat) 0#8).toNat + 256 * (rbuf.toList.getD (9 + 4 * k.toNat) 0#8).toNat) := by
  rw [← elementValue_toNat, BitVec.ofNat_toNat, BitVec.setWidth_eq]

/-- A buffer entry in range, read off the buffer's list. -/
theorem buf_toList_getElem? (buf : Vector Word 64) (e : BitVec 6) :
    buf.toList[e.toNat]? = some (buf[e.toNat]'e.isLt) := by simp

/-- The decode leaves each entry to which no element of the response, whole within it, belongs. -/
theorem decodeElements_unwritten {e : Nat}
    (h : ∀ k : BitVec 2, (mapIndex s.c k).toNat = e → elementPresent s.rlen k = false) :
    (decodeElements s).buf.toList[e]? = s.buf.toList[e]? := by
  by_cases he : e < 64
  · obtain ⟨e, rfl⟩ : ∃ d : BitVec 6, d.toNat = e := ⟨BitVec.ofNat 6 e, Nat.mod_eq_of_lt he⟩
    rw [buf_toList_getElem?, buf_toList_getElem?, decodeElements_get, if_neg]
    rintro ⟨hmap, present⟩
    simp [h _ (congrArg _ hmap)] at present
  · simp [he]

/-- The decode at the entry of element `k`. -/
theorem decodeElements_getElem?_map (s : State) (k : BitVec 2) :
    (decodeElements s).buf.toList[(mapIndex s.c k).toNat]? =
      if elementPresent s.rlen k = true then some (elementValue s.rbuf k)
      else s.buf.toList[(mapIndex s.c k).toNat]? := by
  rw [buf_toList_getElem?, buf_toList_getElem?, decodeElements_get_map, apply_ite some]

/-- Settles O24: the entries of the decode one by one, and its status bit is written 1. -/
theorem decodeWritesTheElementsPresent : Obligations.DecodeWritesTheElementsPresent := by
  intro s hr hst hl
  have bit : decide (10 ≤ s.rlen.toNat) = true := decide_eq_true hl
  refine ⟨(cycDec s.sampleReset).buf, (cycDec s.sampleReset).cycleOk, fun k => ?_, fun e he => ?_, fun hs j => ?_,
    cycDec_status_absent (s := s.sampleReset), step_cycDec_eq hr hst⟩
  · have present : elementPresent s.rlen k = true ↔ 6 + 4 * k.toNat + 3 < s.rlen.toNat := decide_eq_true_iff
    rw [cycDec_buf, ← if_congr present rfl rfl, ← elementValue_eq_ofNat]
    exact decodeElements_getElem?_map s.sampleReset k
  · rw [cycDec_buf]
    exact decodeElements_unwritten (s := s.sampleReset) fun k hk => absurd hk (he k)
  · rw [← bit]
    exact cycDec_status (s := s.sampleReset) hs j

/-! The writers of the buffer (42_cycle_reader.md R137). -/

/-- No operation but those of SCAN_INIT and CYC_DEC writes the buffer. -/
theorem OperationResult.buf_eq (h : OperationResult s t) (hinit : s.st ≠ .scanInit) (hdec : s.st ≠ .cycDec) :
    t.buf = s.buf := by
  cases h with
  | scanStarts hst => exact absurd hst hinit
  | decodes hst => exact absurd hst hdec
  | _ => simp

/-- Settles O39: no other operation writes the buffer, and the decode leaves what no whole element belongs to. -/
theorem bufferIsWrittenByTwoStepsOnly : Obligations.BufferIsWrittenByTwoStepsOnly := by
  intro s t hr hstep
  constructor
  · intro hinit hdec
    rw [step_of_no_reset hr] at hstep
    exact (operation_next hstep).buf_eq hinit hdec
  · intro hst e he
    obtain rfl : cycDec s.sampleReset = t := Host.Outcome.next.inj ((step_cycDec_of_no_reset hr hst).symm.trans hstep)
    rw [cycDec_buf]
    refine decodeElements_unwritten (s := s.sampleReset) fun k hk => ?_
    have short : s.rlen.toNat < 10 + 4 * k.toNat := he k hk
    rw [← Bool.not_eq_true, elementPresent_iff]
    exact Nat.not_le.mpr short

end Sys2Proof.Machine
end

section
/-! PROOFS of the family 43_scan_aggregator: the start of a scan, as one step. -/

namespace Sys2Proof.Machine

variable {s : State}

/-- The operation of SCAN_INIT (10_state.md R28). -/
theorem operation_scanInit (h : s.st = .scanInit) : operation s = .next (scanInit s) := by rw [operation, h]

/-- SCAN_INIT writes the buffer, the status where it exists, `c` and `st`, and nothing else (43_scan_aggregator.md R160). -/
theorem scanInit_eq (s : State) :
    scanInit s =
      { s with
        st := .cycCmd
        buf := Vector.replicate 64 0#16
        cycleOk := if s.params.hasCycleStatus then 0#16 else s.cycleOk
        c := 0#4 } := rfl

/-- Settles O19: the operation of SCAN_INIT, after this boundary of the reset input. -/
theorem scanInitClears : Obligations.ScanInitClears := fun s hr hst =>
  calc step s
    _ = operation s.sampleReset := step_of_no_reset hr
    _ = .next (scanInit s.sampleReset) := operation_scanInit hst
    _ = _ := congrArg _ (scanInit_eq s.sampleReset)

end Sys2Proof.Machine
end

section
/-! PROOFS of the family 44_frame_encoder: each state of the frame encoder, its byte accepted, as one step. -/

namespace Sys2Proof.Machine

variable {s : State}

/-! The byte each index names (44_frame_encoder.md R180, R181, R183, R184). -/

theorem headerByte_eq {i : Byte} (h : i.toNat ≤ 3) : headerByte i = header.getD i.toNat 0#8 := by
  have low : (i.setWidth 2).toNat = i.toNat := by rw [BitVec.toNat_setWidth]; omega
  have inside : i.toNat < header.length := by rw [header_length]; omega
  simp only [headerByte, low, List.getD_eq_getElem header 0#8 inside]

theorem lengthByte_eq {i : Byte} (h : i.toNat ≤ 1) : lengthByte i = lengthField.getD i.toNat 0#8 := by
  have low : (i.setWidth 1).toNat = i.toNat := by rw [BitVec.toNat_setWidth]; omega
  have inside : i.toNat < lengthField.length := by rw [lengthField_length]; omega
  simp only [lengthByte, low, List.getD_eq_getElem lengthField 0#8 inside]

theorem currentPayloadByte_eq (s : State) : currentPayloadByte s = payloadByte s.buf (BitVec.ofNat 7 s.i.toNat) := by
  rw [currentPayloadByte, BitVec.ofNat_toNat]

/-- Payload byte `j` by the parity of `j` (20_memory.md R54). -/
theorem payloadByte_eq_ite (buf : Vector Word 64) {j : Nat} (h : j / 2 < 64) :
    payloadByte buf (BitVec.ofNat 7 j) = if j % 2 = 0 then buf[j / 2].setWidth 8 else (buf[j / 2] >>> 8).setWidth 8 := by
  by_cases even : j % 2 = 0
  · rw [if_pos even]
    have byte := payloadByte_even buf (j / 2) h
    rwa [show 2 * (j / 2) = j by omega, lowByte_eq] at byte
  · rw [if_neg even]
    have byte := payloadByte_odd buf (j / 2) h
    rwa [show 2 * (j / 2) + 1 = j by omega, highByte_eq] at byte

theorem byte_eq_zero_or_one {i : Byte} (h : i.toNat ≤ 1) : i = 0#8 ∨ i = 1#8 := by bv_omega

theorem crcTrailerByte_eq (crc : Word) {i : Byte} (h : i.toNat ≤ 1) :
    crcTrailerByte crc i = (leBytes crc).getD i.toNat 0#8 := by
  obtain rfl | rfl := byte_eq_zero_or_one h
  · rfl
  · rfl

/-! The operation of each state of the frame encoder (10_state.md R28). -/

theorem operation_frmHdr (h : s.st = .frmHdr) : operation s = txPut (headerByte s.i) (stepField 3#8 .frmLen) s := by
  rw [operation, h, frmHdr]

theorem operation_frmLen (h : s.st = .frmLen) : operation s = txPut (lengthByte s.i) (stepField 1#8 .frmSeq) s := by
  rw [operation, h, frmLen]

theorem operation_frmSeq (h : s.st = .frmSeq) : operation s = txPut s.seq afterSeq s := by rw [operation, h, frmSeq]

theorem operation_frmPay (h : s.st = .frmPay) :
    operation s = txPut (currentPayloadByte s)
      (fun t => stepField 127#8 .frmCrc (t.absorb (currentPayloadByte s))) s := by rw [operation, h, frmPay]

theorem operation_frmCrc (h : s.st = .frmCrc) : operation s = txPut (crcTrailerByte s.crc s.i) afterCrc s := by
  rw [operation, h, frmCrc]

/-! The steps. -/

/-- A step whose operation is a put, its byte accepted, emits that byte and goes on. -/
theorem step_of_accepted {b : Byte} {k : State → State} (hr : s.resetOffered = false) (ha : s.txAnswer = .accepted)
    (hop : operation s.sampleReset = txPut b k s.sampleReset) :
    step s = .next (k { s with env := s.env.afterByte b }) := by
  rw [step_of_no_reset hr, hop, txPut_of_accepted (show s.sampleReset.txAnswer = .accepted from ha)]
  rfl

/-- The end of a field's step writes `st` and `i`, and nothing else. -/
theorem stepField_eq (last : Byte) (next : SeqState) (s : State) :
    stepField last next s =
      { s with
        st := if s.i = last then next else s.st
        i := if s.i = last then 0#8 else s.i + 1#8 } := by
  by_cases h : s.i = last
  · simp only [stepField_last h, if_pos h]
    rfl
  · simp only [stepField_other h, if_neg h]
    rfl

/-- Settles O25: the header byte put, then the end of the field's step. -/
theorem headerStepEmitsItsByte : Obligations.HeaderStepEmitsItsByte := by
  intro s hr hst hi ha
  have put : step s = .next (stepField 3#8 .frmLen { s with env := s.env.afterByte (headerByte s.i) }) :=
    step_of_accepted hr ha (operation_frmHdr hst)
  rw [put, stepField_eq, headerByte_eq hi, hst]
  rfl

/-- Settles O26: the length byte put, then the end of the field's step. -/
theorem lengthStepEmitsItsByte : Obligations.LengthStepEmitsItsByte := by
  intro s hr hst hi ha
  have put : step s = .next (stepField 1#8 .frmSeq { s with env := s.env.afterByte (lengthByte s.i) }) :=
    step_of_accepted hr ha (operation_frmLen hst)
  rw [put, stepField_eq, lengthByte_eq hi, hst]
  rfl

/-- Settles O27: `seq` put, then `afterSeq`, whose seed of the CRC takes in the latched value. -/
theorem sequenceStepEmitsAndAdvances : Obligations.SequenceStepEmitsAndAdvances := fun _ hr hst ha =>
  step_of_accepted hr ha (operation_frmSeq hst)

/-- Settles O28: the payload byte put and absorbed, then the end of the field's step; the byte by the parity of its
index. -/
theorem payloadStepEmitsItsByte : Obligations.PayloadStepEmitsItsByte := by
  intro s hr hst hi ha
  have he : s.i.toNat / 2 < 64 := by omega
  refine ⟨s.buf[s.i.toNat / 2], by simp [he], ?_⟩
  have put : step s = .next (stepField 127#8 .frmCrc
      (State.absorb (currentPayloadByte s) { s with env := s.env.afterByte (currentPayloadByte s) })) :=
    step_of_accepted hr ha (operation_frmPay hst)
  rw [put, stepField_eq, currentPayloadByte_eq, payloadByte_eq_ite s.buf he, State.absorb_st, hst]
  rfl

/-- Settles O29: the trailer byte put, then the end of the frame after the second of the two. -/
theorem crcStepEmitsItsByte : Obligations.CrcStepEmitsItsByte := by
  intro s hr hst ha
  have put : step s = .next (afterCrc { s with env := s.env.afterByte (crcTrailerByte s.crc s.i) }) :=
    step_of_accepted hr ha (operation_frmCrc hst)
  constructor
  · intro hi
    have low : crcTrailerByte s.crc s.i = s.crc.setWidth 8 := by rw [hi, ← lowByte_eq]; rfl
    rw [put, low, afterCrc_other (by simp [hi]), State.setIndex, hi]
    rfl
  · intro hi
    have high : crcTrailerByte s.crc s.i = (s.crc >>> 8).setWidth 8 := by rw [hi, ← highByte_eq]; rfl
    rw [put, high]
    exact congrArg _ (afterCrc_last hi)

end Sys2Proof.Machine
end

section
/-! PROOFS of the family 44_frame_encoder: every step keeps the frame invariant, and the last one completes the frame. -/

namespace Sys2Proof.Machine

variable {s t : State} {f : Byte} {n : Nat}

/-! What has been emitted of a frame. -/

/-- The emitted stream ends with the first `n` bytes of the frame of sequence value `f` and the block's buffer. -/
def State.EmittedFirst (f : Byte) (n : Nat) (s : State) : Prop := (frameBytes f s.buf).take n <:+ s.env.txOut

theorem State.FrameInv.emittedFirst (h : s.FrameInv) (hn : s.framePosition = some n) (hf : s.frameSeqValue = f) :
    s.EmittedFirst f n := by
  obtain ⟨earlier, out⟩ := h.emitted n hn
  exact ⟨earlier, by rw [out, hf]⟩

/-- Byte `n` of the frame emitted after the first `n`. -/
theorem State.EmittedFirst.emit {b : Byte} (h : s.EmittedFirst f n) (hn : n < 137)
    (hb : b = (frameBytes f s.buf).getD n 0#8) : (s.dropTxAnswer.emit b).EmittedFirst f (n + 1) := by
  obtain ⟨earlier, out⟩ := h
  have inside : n < (frameBytes f s.buf).length := by rwa [frameBytes_length]
  refine ⟨earlier, ?_⟩
  rw [hb, List.getD_eq_getElem _ _ inside, State.emit_env, State.dropTxAnswer_env, ← out, List.append_assoc,
    List.take_append_getElem inside]
  rfl

/-! Where the frame invariant holds. -/

/-- Outside the five states of the frame encoder it asks nothing. -/
theorem State.FrameInv.of_not_inFrame (h : t.st.inFrame = false) : t.FrameInv := by
  have outside : ∀ u : SeqState, u.inFrame = true → t.st ≠ u := fun u hu e => by simp [e, hu] at h
  have nowhere : t.framePosition = none := by
    unfold State.framePosition
    split <;> simp_all [SeqState.inFrame]
  exact
  { index := ⟨(absurd · (outside _ rfl)), (absurd · (outside _ rfl)), (absurd · (outside _ rfl)),
      (absurd · (outside _ rfl))⟩
    emitted := fun n hn => by simp [nowhere] at hn
    crcPayload := (absurd · (outside _ rfl))
    crcTrailer := (absurd · (outside _ rfl))
    latched := fun e => e.elim (absurd · (outside _ rfl)) (absurd · (outside _ rfl)) }

/-- The emitted bytes, at the one place in the frame the block is. -/
theorem State.EmittedFirst.emitted (h : t.EmittedFirst t.frameSeqValue n) (hn : t.framePosition = some n) :
    ∀ m, t.framePosition = some m → ∃ earlier, t.env.txOut = earlier ++ (frameBytes t.frameSeqValue t.buf).take m := by
  intro m hm
  obtain rfl : n = m := Option.some.inj (hn.symm.trans hm)
  obtain ⟨earlier, out⟩ := h
  exact ⟨earlier, out.symm⟩

/-- Before the sequence byte is out it asks nothing of `crc` and `fseq`. -/
theorem State.FrameInv.of_beforeSeq (hst : t.st = .frmHdr ∨ t.st = .frmLen ∨ t.st = .frmSeq) (index : t.indexInRange)
    (hn : t.framePosition = some n) (out : t.EmittedFirst t.seq n) : t.FrameInv where
  index := index
  emitted := by
    have value : t.frameSeqValue = t.seq := by rcases hst with e | e | e <;> rw [State.frameSeqValue, e]
    exact State.EmittedFirst.emitted (value ▸ out) hn
  crcPayload e := by simp [e] at hst
  crcTrailer e := by simp [e] at hst
  latched e := by rcases e with e | e <;> simp [e] at hst

theorem State.indexInRange_of_le_one (h : t.i.toNat ≤ 1) : t.indexInRange :=
  ⟨fun _ => by omega, fun _ => h, fun _ => by omega, fun _ => h⟩

/-- In FRM_PAY, by its four conditions. -/
theorem State.FrameInv.of_payload (hst : t.st = .frmPay) (hi : t.i.toNat ≤ 127)
    (out : t.EmittedFirst t.fseq (7 + t.i.toNat))
    (hcrc : t.crc = crc16 ((crcInput t.fseq t.buf).take (3 + t.i.toNat))) (hseq : t.seq = t.fseq + 1#8) :
    t.FrameInv where
  index := by simpa [State.indexInRange, hst] using hi
  emitted := by
    have value : t.frameSeqValue = t.fseq := by rw [State.frameSeqValue, hst]
    exact State.EmittedFirst.emitted (value ▸ out) (by rw [State.framePosition, hst])
  crcPayload _ := hcrc
  crcTrailer e := by simp [hst] at e
  latched _ := hseq

/-- In FRM_CRC, by its four conditions. -/
theorem State.FrameInv.of_trailer (hst : t.st = .frmCrc) (hi : t.i.toNat ≤ 1)
    (out : t.EmittedFirst t.fseq (135 + t.i.toNat))
    (hcrc : t.crc = crc16 (crcInput t.fseq t.buf)) (hseq : t.seq = t.fseq + 1#8) : t.FrameInv where
  index := State.indexInRange_of_le_one hi
  emitted := by
    have value : t.frameSeqValue = t.fseq := by rw [State.frameSeqValue, hst]
    exact State.EmittedFirst.emitted (value ▸ out) (by rw [State.framePosition, hst])
  crcPayload e := by simp [hst] at e
  crcTrailer _ := hcrc
  latched _ := hseq

/-! The five states of the frame encoder, the byte accepted: one byte more is out, and the next place is in its range. -/

/-- An index that has not reached the field's last does not wrap. -/
theorem toNat_add_one_of_ne {i last : Byte} (h : i.toNat ≤ last.toNat) (hne : i ≠ last) :
    (i + 1#8).toNat = i.toNat + 1 ∧ i.toNat + 1 ≤ last.toNat := by bv_omega

theorem State.FrameInv.emitsHeader (h : s.FrameInv) (hst : s.st = .frmHdr) :
    (stepField 3#8 .frmLen (s.dropTxAnswer.emit (headerByte s.i))).FrameInv := by
  obtain ⟨range, -⟩ := h.index
  have hi := range hst
  have before : s.EmittedFirst s.seq s.i.toNat :=
    h.emittedFirst (by rw [framePosition, hst]) (by rw [frameSeqValue, hst])
  have out := before.emit (b := headerByte s.i) (by omega) (by rw [headerByte_eq hi, frameBytes_header _ _ (by omega)])
  by_cases last : s.i = 3#8
  · rw [stepField_last (by simpa using last)]
    exact .of_beforeSeq (.inr (.inl rfl)) (indexInRange_of_le_one (Nat.zero_le 1)) rfl (last ▸ out)
  · obtain ⟨next, inRange⟩ := toNat_add_one_of_ne hi last
    rw [stepField_other (by simpa using last)]
    refine .of_beforeSeq (n := s.i.toNat + 1) (.inl hst) ?_ ?_ out
    · simpa [indexInRange, hst, next] using inRange
    · simp [framePosition, hst, next]

theorem State.FrameInv.emitsLength (h : s.FrameInv) (hst : s.st = .frmLen) :
    (stepField 1#8 .frmSeq (s.dropTxAnswer.emit (lengthByte s.i))).FrameInv := by
  obtain ⟨-, range, -⟩ := h.index
  have hi := range hst
  have before : s.EmittedFirst s.seq (4 + s.i.toNat) :=
    h.emittedFirst (by rw [framePosition, hst]) (by rw [frameSeqValue, hst])
  have out := before.emit (b := lengthByte s.i) (by omega)
    (by rw [lengthByte_eq hi, frameBytes_lengthField _ _ (by omega)])
  by_cases last : s.i = 1#8
  · rw [stepField_last (by simpa using last)]
    exact .of_beforeSeq (.inr (.inr rfl)) (indexInRange_of_le_one (Nat.zero_le 1)) rfl (last ▸ out)
  · obtain ⟨next, inRange⟩ := toNat_add_one_of_ne hi last
    rw [stepField_other (by simpa using last)]
    refine .of_beforeSeq (n := 4 + s.i.toNat + 1) (.inr (.inl hst)) ?_ ?_ out
    · exact indexInRange_of_le_one (next.trans_le inRange)
    · simp [framePosition, hst, next, Nat.add_assoc]

theorem State.FrameInv.emitsSeq (h : s.FrameInv) (hst : s.st = .frmSeq) :
    (afterSeq (s.dropTxAnswer.emit s.seq)).FrameInv := by
  have before : s.EmittedFirst s.seq 6 := h.emittedFirst (by rw [framePosition, hst]) (by rw [frameSeqValue, hst])
  exact .of_payload rfl (Nat.zero_le 127) (before.emit (by omega) (frameBytes_seq ..).symm) rfl rfl

/-- What FRM_PAY absorbs is the next byte of CRCIN. -/
theorem crcByte_currentPayloadByte (hi : s.i.toNat ≤ 127)
    (hcrc : s.crc = crc16 ((crcInput s.fseq s.buf).take (3 + s.i.toNat))) :
    crcByte s.crc (currentPayloadByte s) = crc16 ((crcInput s.fseq s.buf).take (3 + (s.i.toNat + 1))) := by
  rw [crcInput_take_succ _ _ (by omega), crc16_concat, ← hcrc, currentPayloadByte_eq]

theorem State.FrameInv.emitsPayload (h : s.FrameInv) (hst : s.st = .frmPay) :
    (stepField 127#8 .frmCrc ((s.dropTxAnswer.emit (currentPayloadByte s)).absorb (currentPayloadByte s))).FrameInv := by
  obtain ⟨-, -, range, -⟩ := h.index
  have hi := range hst
  have before : s.EmittedFirst s.fseq (7 + s.i.toNat) :=
    h.emittedFirst (by rw [framePosition, hst]) (by rw [frameSeqValue, hst])
  have out := before.emit (b := currentPayloadByte s) (by omega)
    (by rw [currentPayloadByte_eq, frameBytes_payload _ _ (by omega)])
  have crc := crcByte_currentPayloadByte hi (h.crcPayload hst)
  have ahead := h.latched (.inl hst)
  by_cases last : s.i = 127#8
  · rw [stepField_last (by simpa using last)]
    rw [last, List.take_of_length_le (by simp)] at crc
    rw [last] at out
    exact .of_trailer rfl (Nat.zero_le 1) out crc ahead
  · obtain ⟨next, inRange⟩ := toNat_add_one_of_ne hi last
    rw [← next] at crc
    rw [Nat.add_assoc, ← next] at out
    rw [stepField_other (by simpa using last)]
    exact .of_payload hst (next.trans_le inRange) out crc ahead

theorem State.FrameInv.trailerIndex (h : s.FrameInv) (hst : s.st = .frmCrc) : s.i.toNat ≤ 1 := by
  obtain ⟨-, -, -, range⟩ := h.index
  exact range hst

/-- A trailer byte put leaves one byte more of the frame out; after the second, at `i` = 1, all 137. -/
theorem State.FrameInv.trailerOut (h : s.FrameInv) (hst : s.st = .frmCrc) :
    (s.dropTxAnswer.emit (crcTrailerByte s.crc s.i)).EmittedFirst s.fseq (135 + (s.i.toNat + 1)) := by
  have hi := h.trailerIndex hst
  have before : s.EmittedFirst s.fseq (135 + s.i.toNat) :=
    h.emittedFirst (by rw [framePosition, hst]) (by rw [frameSeqValue, hst])
  exact before.emit (by omega) (by rw [crcTrailerByte_eq _ hi, frameBytes_trailer, h.crcTrailer hst])

theorem State.FrameInv.emitsCrc (h : s.FrameInv) (hst : s.st = .frmCrc) :
    (afterCrc (s.dropTxAnswer.emit (crcTrailerByte s.crc s.i))).FrameInv := by
  by_cases last : s.i = 1#8
  · rw [afterCrc_last (by simpa using last)]
    exact .of_not_inFrame rfl
  · obtain ⟨next, inRange⟩ := toNat_add_one_of_ne (h.trailerIndex hst) last
    have out := h.trailerOut hst
    rw [← next] at out
    rw [afterCrc_other (by simpa using last)]
    exact .of_trailer hst (next.trans_le inRange) out (h.crcTrailer hst) (h.latched (.inr hst))

/-- CYC_DEC leads to the next cycle, or to the start of a frame of which nothing is out yet. -/
theorem cycDec_frameInv (s : State) : (cycDec s).FrameInv := by
  by_cases last : s.c = 15#4
  · obtain ⟨hst, hi⟩ := cycDec_last last
    refine .of_beforeSeq (n := 0) (.inl hst) (State.indexInRange_of_le_one (by rw [hi]; decide)) ?_ (List.nil_suffix)
    rw [State.framePosition, hst, hi]
    rfl
  · obtain ⟨hst, -⟩ := cycDec_other last
    exact .of_not_inFrame (by rw [hst]; rfl)

/-- Each operation keeps the frame invariant. -/
theorem OperationResult.frameInv (h : s.FrameInv) (hop : OperationResult s t) : t.FrameInv := by
  cases hop with
  | waits => exact h
  | starts | discards | scanStarts | requests | readsFallback | fails => exact .of_not_inFrame rfl
  | readsFull => exact .of_not_inFrame (by rw [afterFullRead_st]; split <;> rfl)
  | decodes => exact cycDec_frameInv s
  | emitsHeader hst => exact h.emitsHeader hst
  | emitsLength hst => exact h.emitsLength hst
  | emitsSeq hst => exact h.emitsSeq hst
  | emitsPayload hst => exact h.emitsPayload hst
  | emitsCrc hst => exact h.emitsCrc hst

theorem State.FrameInv.sampleReset (h : s.FrameInv) : s.sampleReset.FrameInv :=
  ⟨h.index, h.emitted, h.crcPayload, h.crcTrailer, h.latched⟩

/-- Settles O44: a reset event leads out of the frame, and each operation keeps the invariant. -/
theorem everyStepKeepsTheFrameInvariant : Obligations.EveryStepKeepsTheFrameInvariant := by
  intro s t h hstep
  obtain ⟨-, rfl⟩ | ⟨-, hop⟩ := step_next hstep
  · exact .of_not_inFrame rfl
  · exact hop.frameInv h.sampleReset

/-- An operation that leads from FRM_CRC to IDLE has emitted the second trailer byte. -/
theorem OperationResult.endsFrame (hop : OperationResult s t) (hst : s.st = .frmCrc) (ht : t.st = .idle) :
    s.i = 1#8 ∧ t = (s.dropTxAnswer.emit (crcTrailerByte s.crc s.i)).goto .idle := by
  cases hop with
  | emitsCrc =>
    rw [afterCrc_st] at ht
    by_cases last : s.i = 1#8
    · exact ⟨last, afterCrc_last last⟩
    · simp [last, hst] at ht
  | fails => cases ht
  | waits h | starts _ _ h | discards _ _ h | scanStarts h | requests h | readsFull _ _ h | readsFallback _ _ h | decodes h
  | emitsHeader h | emitsLength h | emitsSeq h | emitsPayload h => simp [hst] at h

/-- Settles O46: with 136 bytes of the frame out by the invariant, the step emits the last. -/
theorem theLastByteCompletesTheFrame : Obligations.TheLastByteCompletesTheFrame := by
  intro s t h hr hst hstep ht
  rw [step_of_no_reset hr] at hstep
  obtain ⟨last, rfl⟩ := (operation_next hstep).endsFrame hst ht
  obtain ⟨earlier, out⟩ := h.sampleReset.trailerOut hst
  rw [List.take_of_length_le (by rw [frameBytes_length, last]; decide)] at out
  exact ⟨earlier, out.symm⟩

end Sys2Proof.Machine
end

section
/-! PROOFS of the family 44_frame_encoder: who writes the sequence counter, and what the cycle reader and the frame encoder
leave alone. -/

namespace Sys2Proof.Machine

variable {s t : State}

/-- Only FRM_SEQ, its byte accepted, writes the counter (44_frame_encoder.md R182). -/
theorem OperationResult.seq_eq (h : OperationResult s t) :
    t.seq = if s.st = .frmSeq ∧ s.txAnswer = .accepted then s.seq + 1#8 else s.seq := by
  cases h with
  | emitsSeq hst ha => simp [hst, ha]
  | fails hst ha => simp [ha]
  | waits hst | starts _ _ hst | discards _ _ hst | scanStarts hst | requests hst | readsFull _ _ hst
  | readsFallback _ _ hst | decodes hst | emitsHeader hst | emitsLength hst | emitsPayload hst | emitsCrc hst => simp [hst]

/-- Settles O38: a reset event writes 0 to the counter, and of the operations FRM_SEQ alone writes it. -/
theorem counterAdvancesOnlyInFrmSeq : Obligations.CounterAdvancesOnlyInFrmSeq := by
  intro s t h
  obtain ⟨hr, rfl⟩ | ⟨hr, hop⟩ := step_next h
  · rw [if_pos hr, State.resetEvent_seq]
  · rw [if_neg (by simp [hr])]
    exact hop.seq_eq

/-- The cycle reader writes nothing of the frame encoder's and emits and takes no byte (42_cycle_reader.md R140). -/
theorem OperationResult.cycle_frame (h : OperationResult s t) (hcyc : s.st.inCycle = true) :
    t.seq = s.seq ∧ t.fseq = s.fseq ∧ t.crc = s.crc ∧ t.env.txOut = s.env.txOut ∧ t.env.cmdIn = s.env.cmdIn := by
  cases h with
  | requests | readsFull | readsFallback | decodes => simp
  | fails hst => simp [SeqState.not_inCycle_of_inFrame hst] at hcyc
  | waits hst | starts _ _ hst | discards _ _ hst | scanStarts hst | emitsHeader hst | emitsLength hst | emitsSeq hst
  | emitsPayload hst | emitsCrc hst => simp [hst, SeqState.inCycle] at hcyc

/-- The frame encoder writes `seq`, `fseq`, `crc`, `i` and `st` only, and issues no bus transaction and takes no byte
(44_frame_encoder.md R192). -/
theorem OperationResult.encoder_frame (h : OperationResult s t) (hfrm : s.st.inFrame = true) :
    t.params = s.params ∧ t.buf = s.buf ∧ t.c = s.c ∧ t.rlen = s.rlen ∧ t.rbuf = s.rbuf ∧ t.cycleOk = s.cycleOk ∧
      t.draws = s.draws ∧ t.env.busLog = s.env.busLog ∧ t.env.cmdIn = s.env.cmdIn := by
  cases h with
  | fails | emitsHeader | emitsLength | emitsSeq | emitsPayload | emitsCrc => simp
  | waits hst | starts _ _ hst | discards _ _ hst | scanStarts hst | requests hst | readsFull _ _ hst
  | readsFallback _ _ hst | decodes hst => simp [hst, SeqState.inFrame] at hfrm

/-- Settles O43: the frames of the two kinds of operation. -/
theorem readerAndEncoderKeepApart : Obligations.ReaderAndEncoderKeepApart := by
  intro s t hr h
  rw [step_of_no_reset hr] at h
  exact ⟨(operation_next h).cycle_frame, (operation_next h).encoder_frame⟩

end Sys2Proof.Machine
end

section
/-! PROOFS of the family 44_frame_encoder: the runs from a command byte to the next, and what a stream of commands emits. -/

namespace Sys2Proof.Machine

variable {s t : State} {b : Byte} {rest : List Byte}

/-! The step that takes a command byte (45_command_dispatch.md R210 to R213). -/

theorem exec_decodeCommand_of_trigger (hb : b = 0x72#8 ∨ b = 0x52#8) (s : State) :
    exec (decodeCommand b) s = .next (startScan s) := by
  obtain rfl | rfl := hb
  · rfl
  · rfl

theorem exec_decodeCommand_of_other (hr : b ≠ 0x72#8) (hR : b ≠ 0x52#8) (s : State) :
    exec (decodeCommand b) s = .next (s.goto .idle) := by
  have discarded : decodeCommand b = .discard b := (if_neg hr).trans (if_neg hR)
  rw [discarded]
  rfl

theorem step_takes_command (hr : s.resetOffered = false) (hst : s.st = .idle) (hin : s.env.cmdIn = b :: rest) :
    step s = exec (decodeCommand b) (s.sampleReset.leaveOffered rest) := by
  have offered : s.sampleReset.env.cmdIn = b :: rest := hin
  rw [step_of_no_reset hr, operation, State.sampleReset_st, hst]
  simp only [idle, offered, decode]

/-! One trigger: its scan and its frame. -/

/-- Every port does its duty and no reset is offered (60_exceptions.md R234). -/
structure Env.DoesItsDuty (e : Env) : Prop where
  noReset : e.noReset
  busCompletes : e.busCompletes
  outputAccepted : e.outputAccepted

/-- `t` is the block after the trigger first offered to `s`, its scan and its frame, with `rest` still offered
(45_command_dispatch.md R211, R214). -/
structure State.Served (s : State) (rest : List Byte) (t : State) : Prop where
  st : t.st = .idle
  cmdIn : t.env.cmdIn = rest
  entries : holdsScan s.params s.env.busRd t.buf
  status : s.params.hasCycleStatus = true → holdsStatus s.params s.env.busRd t.cycleOk
  txOut : t.env.txOut = s.env.txOut ++ frameBytes s.seq t.buf
  seq : t.seq = s.seq + 1#8
  busLog : t.env.busLog = s.env.busLog ++ scanEvents s.params s.env.busRd
  duty : t.env.DoesItsDuty

/-- The block `v` after all cycles of its scan, its frame emitted. -/
theorem State.CyclesDone.frame {v : State} (h : s.CyclesDone 16 v) (hout : s.env.outputAccepted) :
    ∃ t, runSteps 137 v = .next t ∧ s.Served s.env.cmdIn t := by
  obtain ⟨hst, hi⟩ := h.ended rfl
  have accepted : v.env.outputAccepted := by rw [Env.outputAccepted, h.txPort]; exact hout
  have lets : v.env.letsFrameOut := ⟨h.letsScanRun.1, accepted⟩
  refine ⟨_, runSteps_frame hst hi lets, ?_⟩
  exact
  { st := rfl
    cmdIn := h.cmdIn
    entries := fun c k => by rw [h.entries, if_pos c.isLt]
    status := fun hs c => by rw [h.status hs, if_pos c.isLt]
    txOut := by rw [← h.txOut, ← h.seq]; rfl
    seq := by rw [← h.seq]
    busLog := h.busLog
    duty := ⟨(lets.afterBytes _).1, h.letsScanRun.2.of_tail (.inl rfl) (.inl rfl), (lets.afterBytes _).2⟩ }

/-- A trigger in IDLE is served: one step for the byte, at most 65 for the scan and 137 for the frame. -/
theorem runSteps_trigger (hst : s.st = .idle) (hin : s.env.cmdIn = b :: rest) (hb : b = 0x72#8 ∨ b = 0x52#8)
    (duty : s.env.DoesItsDuty) : ∃ (n : Nat) (t : State), n ≤ 203 ∧ runSteps n s = .next t ∧ s.Served rest t := by
  have take : step s = .next (startScan (s.sampleReset.leaveOffered rest)) := by
    rw [step_takes_command duty.noReset.notOffered hst hin, exec_decodeCommand_of_trigger hb]
  have scans : (startScan (s.sampleReset.leaveOffered rest)).env.letsScanRun :=
    ⟨duty.noReset.of_tail rfl, duty.busCompletes.of_tail (.inl rfl) (.inl rfl)⟩
  obtain ⟨n, v, hn, scan, done⟩ := runSteps_cycles (startScan_st _) scans 16 le_rfl
  obtain ⟨t, frame, served⟩ := done.frame duty.outputAccepted
  refine ⟨n + 137 + 1, t, by omega, ?_, { served with }⟩
  rw [runSteps_succ take, runSteps_add scan, frame]

/-- A byte that is no trigger is taken, and changes nothing else. -/
theorem step_discards (hst : s.st = .idle) (hin : s.env.cmdIn = b :: rest) (hr : b ≠ 0x72#8) (hR : b ≠ 0x52#8)
    (duty : s.env.DoesItsDuty) : step s = .next ((s.sampleReset.leaveOffered rest).goto .idle) := by
  rw [step_takes_command duty.noReset.notOffered hst hin, exec_decodeCommand_of_other hr hR]

/-! A stream of commands. -/

/-- The frames of the buffers `bufs`, one after another, numbered from `seq` modulo 256 (44_frame_encoder.md R187). -/
def numberedFrames (seq : Byte) (bufs : List (Vector Word 64)) : List Byte :=
  (bufs.mapIdx fun k buf => frameBytes (seq + BitVec.ofNat 8 k) buf).flatten

theorem add_one_add_ofNat (seq : Byte) (k : Nat) : seq + 1#8 + BitVec.ofNat 8 k = seq + BitVec.ofNat 8 (k + 1) := by
  rw [BitVec.ofNat_add, BitVec.add_comm (BitVec.ofNat 8 k), BitVec.add_assoc]

theorem numberedFrames_cons (seq : Byte) (buf : Vector Word 64) (bufs : List (Vector Word 64)) :
    numberedFrames seq (buf :: bufs) = frameBytes seq buf ++ numberedFrames (seq + 1#8) bufs := by
  rw [numberedFrames, List.mapIdx_cons, List.flatten_cons, BitVec.add_zero, numberedFrames]
  simp only [add_one_add_ofNat]

/-- The command bytes that ask for a frame (30_encoding.md R71). -/
def isTrigger (b : Byte) : Bool := b == 0x72#8 || b == 0x52#8

theorem isTrigger_iff : isTrigger b = true ↔ b = 0x72#8 ∨ b = 0x52#8 := by simp [isTrigger]

/-- `t` is the block after all bytes offered to `s`, with the frames of `bufs` emitted, one for each trigger. -/
structure State.AllServed (s : State) (bufs : List (Vector Word 64)) (t : State) : Prop where
  st : t.st = .idle
  cmdIn : t.env.cmdIn = []
  length : bufs.length = (s.env.cmdIn.filter isTrigger).length
  seq : t.seq = s.seq + BitVec.ofNat 8 bufs.length
  txOut : t.env.txOut = s.env.txOut ++ numberedFrames s.seq bufs

theorem State.AllServed.of_trigger {u : State} {bufs : List (Vector Word 64)} (hin : s.env.cmdIn = b :: rest)
    (hb : isTrigger b = true) (served : s.Served rest u) (h : u.AllServed bufs t) : s.AllServed (u.buf :: bufs) t where
  st := h.st
  cmdIn := h.cmdIn
  length := by rw [hin, List.filter_cons_of_pos hb, List.length_cons, List.length_cons, h.length, served.cmdIn]
  seq := by rw [h.seq, served.seq, add_one_add_ofNat, List.length_cons]
  txOut := by rw [h.txOut, served.txOut, served.seq, numberedFrames_cons, List.append_assoc]

theorem State.AllServed.of_other {bufs : List (Vector Word 64)} (hin : s.env.cmdIn = b :: rest)
    (hb : ¬ isTrigger b = true) (h : ((s.sampleReset.leaveOffered rest).goto .idle).AllServed bufs t) :
    s.AllServed bufs t :=
  { h with length := by rw [hin, List.filter_cons_of_neg hb]; exact h.length }

/-- The run of a stream of commands, byte by byte. -/
theorem runSteps_commands (cmds : List Byte) (s : State) (hst : s.st = .idle) (hin : s.env.cmdIn = cmds)
    (duty : s.env.DoesItsDuty) :
    ∃ (n : Nat) (t : State) (bufs : List (Vector Word 64)), runSteps n s = .next t ∧ s.AllServed bufs t := by
  induction cmds generalizing s with
  | nil => exact ⟨0, s, [], rfl, hst, hin, by simp [hin], by simp, by simp [numberedFrames]⟩
  | cons b rest ih =>
    by_cases hb : isTrigger b = true
    · obtain ⟨n, u, -, run, served⟩ := runSteps_trigger hst hin (isTrigger_iff.mp hb) duty
      obtain ⟨m, t, bufs, after, all⟩ := ih u served.st served.cmdIn served.duty
      exact ⟨n + m, t, u.buf :: bufs, (runSteps_add run).trans after, .of_trigger hin hb served all⟩
    · obtain ⟨hr, hR⟩ := not_or.mp (mt isTrigger_iff.mpr hb)
      have taken := step_discards hst hin hr hR duty
      obtain ⟨m, t, bufs, after, all⟩ := ih ((s.sampleReset.leaveOffered rest).goto .idle) rfl rfl
        ⟨duty.noReset.of_tail rfl, duty.busCompletes, duty.outputAccepted⟩
      exact ⟨m + 1, t, bufs, (runSteps_succ taken).trans after, .of_other hin hb all⟩

/-- Settles O54: by induction on the bytes offered, a trigger served or a byte discarded each. -/
theorem everyTriggerGetsItsNumberedFrame : Obligations.EveryTriggerGetsItsNumberedFrame := by
  intro s hst hr hb ho
  obtain ⟨n, t, bufs, run, all⟩ := runSteps_commands s.env.cmdIn s hst rfl ⟨hr, hb, ho⟩
  exact ⟨n, t, bufs, run, all.st, all.cmdIn, all.length, all.seq, all.txOut⟩

/-! A scan that reads nothing (44_frame_encoder.md R191). -/

theorem responseReading_of_short {response : List Byte} (h : response.length < 10) (k : BitVec 2) :
    responseReading response k = 0#16 := if_neg (by omega)

/-- Every entry is one of the map (41_index_map.md R121), so zero readings leave a zero buffer. -/
theorem holdsScan_of_short {p : Params} {answers : List ReadAnswer} {buf : Vector Word 64} (h : holdsScan p answers buf)
    (short : ∀ c : BitVec 4, (scanResponse p.respCountMode answers c.toNat).length < 10) :
    buf = Vector.replicate 64 0#16 := by
  have zero : ∀ e : BitVec 6, buf[e.toNat]'e.isLt = 0#16 := fun e => by
    have entry := h (mapInverse e).1 (mapInverse e).2
    rw [responseReading_of_short (short _)] at entry
    simpa only [mapIndex_mapInverse] using entry
  ext1 e he
  rw [Vector.getElem_replicate]
  simpa [Nat.mod_eq_of_lt he] using zero (BitVec.ofNat 6 e)

theorem holdsStatus_of_short {p : Params} {answers : List ReadAnswer} {cycleOk : BitVec 16}
    (h : holdsStatus p answers cycleOk)
    (short : ∀ c : BitVec 4, (scanResponse p.respCountMode answers c.toNat).length < 10) : cycleOk = 0#16 := by
  refine BitVec.eq_of_getLsbD_eq fun j hj => ?_
  have bit := h (BitVec.ofNat 4 j)
  rw [decide_eq_false (Nat.not_le.mpr (short _))] at bit
  simpa [Nat.mod_eq_of_lt hj] using bit

theorem payload_zero : payload (Vector.replicate 64 0#16) = List.replicate 128 0#8 := by
  refine List.eq_replicate_iff.mpr ⟨payload_length _, fun b hb => ?_⟩
  obtain ⟨j, hj, rfl⟩ := List.mem_map.mp hb
  simp [payloadByte, lowByte, highByte]

/-- Settles O55: the trigger is served, with zero readings all over the frame. -/
theorem noResponseGivesAZeroFrame : Obligations.NoResponseGivesAZeroFrame := by
  intro s b rest hst hin htrig hr hb ho short
  obtain ⟨n, t, -, run, served⟩ := runSteps_trigger hst hin htrig ⟨hr, hb, ho⟩
  refine ⟨n, t, run, served.st, fun hs => holdsStatus_of_short (served.status hs) short, ?_⟩
  rw [served.txOut, holdsScan_of_short served.entries short, frameBytes, crcInput, payload_zero]
  simp [header, lengthField]

end Sys2Proof.Machine
end

section
/-! PROOFS of the family 45_command_dispatch: the step of IDLE, with and without a command byte, and one trigger served. -/

namespace Sys2Proof.Machine

variable {s : State}

/-- Settles O53: the run of one trigger, and what it leaves. -/
theorem oneTriggerOneScanOneFrame : Obligations.OneTriggerOneScanOneFrame := by
  intro s b rest hst hin htrig hr hb ho
  obtain ⟨n, t, hn, run, served⟩ := runSteps_trigger hst hin htrig ⟨hr, hb, ho⟩
  exact ⟨n, t, hn, run, served.st, served.cmdIn, served.entries, served.status, served.txOut, served.seq, served.busLog⟩

/-! A command byte taken (45_command_dispatch.md R210). -/

theorem operation_idle (h : s.st = .idle) : operation s = idle s := by rw [operation, h]

theorem idle_of_decoded {i : Instr} {rest : List Byte} (h : decode .cmd s.env.cmdIn = .ok i rest) :
    idle s = exec i (s.leaveOffered rest) := by rw [idle, h]

/-- Settles O5: the operation of IDLE on the byte offered, after this boundary of the reset input. -/
theorem stepRunsTheTakenCommand : Obligations.StepRunsTheTakenCommand := by
  intro s i rest hr hst hdec
  calc step s
    _ = operation s.sampleReset := step_of_no_reset hr
    _ = idle s.sampleReset := operation_idle hst
    _ = exec i (s.sampleReset.leaveOffered rest) := idle_of_decoded hdec

/-! What a byte means (45_command_dispatch.md R211 to R213). -/

/-- Settles O7: the lower and the upper trigger decode to the two instructions, and either starts a scan. -/
theorem triggersStartAScan : Obligations.TriggersStartAScan := fun s =>
  ⟨exec_decodeCommand_of_trigger (.inl rfl) s, exec_decodeCommand_of_trigger (.inr rfl) s⟩

theorem State.goto_of_st_eq {t : SeqState} (h : s.st = t) : s.goto t = s := by rw [State.goto, ← h]

/-- Settles O8: the meaning of DISCARD, which a step from IDLE runs with `st` in IDLE already. -/
theorem discardConsumesTheByteOnly : Obligations.DiscardConsumesTheByteOnly := by
  refine ⟨fun _ _ => rfl, fun s b rest hr hst hin hlower hupper => ?_⟩
  have still : (s.sampleReset.leaveOffered rest).goto .idle = s.sampleReset.leaveOffered rest := State.goto_of_st_eq hst
  rw [step_takes_command hr hst hin, exec_decodeCommand_of_other hlower hupper, still]
  rfl

/-! No byte available (45_command_dispatch.md R210, R216). -/

theorem idle_of_no_byte (h : s.env.cmdIn = []) : idle s = .next s := by rw [idle, h, decode]

theorem State.resetOffered_of_none_ahead (h : s.env.resetIn = []) : s.resetOffered = false := by
  rw [State.resetOffered, h, List.headD_nil]

theorem State.sampleReset_of_none_ahead (h : s.env.resetIn = []) : s.sampleReset = s := by
  rw [State.sampleReset, h, List.tail_nil, ← h]

theorem step_quiescent (hst : s.st = .idle) (hin : s.env.cmdIn = []) (hreset : s.env.resetIn = []) :
    step s = .next s := by
  rw [step_of_no_reset (State.resetOffered_of_none_ahead hreset), State.sampleReset_of_none_ahead hreset,
    operation_idle hst, idle_of_no_byte hin]

/-- Settles O30: by induction on the number of steps, each of which answers the state it began in. -/
theorem quiescentIsFinal : Obligations.QuiescentIsFinal := by
  intro s n hst hin hreset
  induction n with
  | zero => exact runSteps_zero s
  | succ n ih => rw [runSteps_succ (step_quiescent hst hin hreset), ih]

end Sys2Proof.Machine
end

section
/-! PROOFS of the family 60_exceptions: a failed put, the stops of a step, and that there are no others. -/

namespace Sys2Proof.Machine

variable {s t : State} {f : Fault}

/-! The operation of each state by the port it uses (10_state.md R28, 60_exceptions.md R220). -/

/-- Every state of the frame encoder puts one byte. -/
theorem operation_of_inFrame (h : s.st.inFrame = true) : ∃ b k, operation s = txPut b k s := by
  cases hst : s.st with
  | frmHdr => exact ⟨_, _, operation_frmHdr hst⟩
  | frmLen => exact ⟨_, _, operation_frmLen hst⟩
  | frmSeq => exact ⟨_, _, operation_frmSeq hst⟩
  | frmPay => exact ⟨_, _, operation_frmPay hst⟩
  | frmCrc => exact ⟨_, _, operation_frmCrc hst⟩
  | _ => rw [hst] at h; cases h

theorem operation_fault_state (h : s.st = .fault) : operation s = .fault .txPortFailure := by rw [operation, h]

/-- IDLE answers a next state, whatever the byte and also without one. -/
theorem idle_answers (s : State) : ∃ t, idle s = .next t := by
  cases hin : s.env.cmdIn with
  | nil => exact ⟨_, idle_of_no_byte hin⟩
  | cons b rest =>
    have run : idle s = exec (decodeCommand b) (s.leaveOffered rest) := idle_of_decoded (by rw [hin, decode])
    by_cases htrig : b = 0x72#8 ∨ b = 0x52#8
    · exact ⟨_, run.trans (exec_decodeCommand_of_trigger htrig _)⟩
    · obtain ⟨hlower, hupper⟩ := not_or.mp htrig
      exact ⟨_, run.trans (exec_decodeCommand_of_other hlower hupper _)⟩

/-- An operation is the one port primitive of its state; without a port, it stops in FAULT and answers a next state
elsewhere. -/
inductive OperationPort (s : State) : Prop
  | answers (t : State) (hop : operation s = .next t)
  | writes (hst : s.st = .cycCmd) (l : List Byte) (hold : Bool) (k : State → State)
      (hop : operation s = busWrite l hold k s)
  | reads (hst : s.st = .cycRd22 ∨ s.st = .cycRd10) (n : Nat) (k : List Byte → State → State)
      (hop : operation s = busRead n k s)
  | puts (hst : s.st.inFrame = true) (b : Byte) (k : State → State) (hop : operation s = txPut b k s)
  | stops (hst : s.st = .fault) (hop : operation s = .fault .txPortFailure)

theorem operation_port (s : State) : OperationPort s := by
  cases hst : s.st with
  | idle =>
    obtain ⟨t, ht⟩ := idle_answers s
    exact .answers t ((operation_idle hst).trans ht)
  | scanInit => exact .answers _ (operation_scanInit hst)
  | cycDec => exact .answers _ (operation_cycDec hst)
  | cycCmd => exact .writes hst _ _ _ (operation_cycCmd hst)
  | cycRd22 => exact .reads (.inl hst) _ _ (operation_cycRd22 hst)
  | cycRd10 => exact .reads (.inr hst) _ _ (operation_cycRd10 hst)
  | frmHdr | frmLen | frmSeq | frmPay | frmCrc =>
    have hfrm : s.st.inFrame = true := by rw [hst]; rfl
    obtain ⟨b, k, hop⟩ := operation_of_inFrame hfrm
    exact .puts hfrm b k hop
  | fault => exact .stops hst (operation_fault_state hst)

/-! A failed put (60_exceptions.md R222). -/

/-- Settles O32: the operation of every frame state is a put, which fails before its byte is out and before what follows
it is done. -/
theorem failedPutChangesOnlySt : Obligations.FailedPutChangesOnlySt := by
  intro s hr hfrm ha
  obtain ⟨b, k, hop⟩ := operation_of_inFrame (s := s.sampleReset) hfrm
  calc step s
    _ = operation s.sampleReset := step_of_no_reset hr
    _ = txPut b k s.sampleReset := hop
    _ = .next s.sampleReset.dropTxAnswer.raiseFault := txPut_of_failed ha
    _ = .next { s with st := .fault, env := s.env.afterFailure } := rfl

/-! The stops (60_exceptions.md R222 to R224). -/

/-- Where the block is faulted or stuck, under the name the model gives the stop. -/
def State.StopsWith (s : State) : Fault → Prop
  | .txPortFailure => s.st = .fault
  | .busStall => (s.st = .cycCmd ∧ s.writeAnswer = .neverCompletes) ∨
      ((s.st = .cycRd22 ∨ s.st = .cycRd10) ∧ s.readAnswer = .neverCompletes)
  | .outputStall => s.st.inFrame = true ∧ s.txAnswer = .neverAccepted

theorem busWrite_of_never {l : List Byte} {hold : Bool} {k : State → State} (h : s.writeAnswer = .neverCompletes) :
    busWrite l hold k s = .fault .busStall := by simp only [busWrite, h]

theorem busRead_of_never {n : Nat} {k : List Byte → State → State} (h : s.readAnswer = .neverCompletes) :
    busRead n k s = .fault .busStall := by simp only [busRead, h]

theorem operation_of_stopsWith (h : s.StopsWith f) : operation s = .fault f := by
  cases f with
  | txPortFailure => exact operation_fault_state h
  | busStall =>
    obtain ⟨hst, ha⟩ | ⟨hst | hst, ha⟩ := h
    · exact (operation_cycCmd hst).trans (busWrite_of_never ha)
    · exact (operation_cycRd22 hst).trans (busRead_of_never ha)
    · exact (operation_cycRd10 hst).trans (busRead_of_never ha)
  | outputStall =>
    obtain ⟨hst, ha⟩ := h
    obtain ⟨b, k, hop⟩ := operation_of_inFrame hst
    exact hop.trans (txPut_of_never ha)

theorem stopsWith_of_operation (h : operation s = .fault f) : s.StopsWith f := by
  cases operation_port s with
  | answers t hop => rw [hop] at h; cases h
  | writes hst l hold k hop =>
    obtain ⟨ha, rfl⟩ := busWrite_fault (hop ▸ h)
    exact .inl ⟨hst, ha⟩
  | reads hst n k hop =>
    obtain ⟨ha, rfl⟩ := busRead_fault (hop ▸ h)
    exact .inr ⟨hst, ha⟩
  | puts hst b k hop =>
    obtain ⟨ha, rfl⟩ := txPut_fault (hop ▸ h)
    exact ⟨hst, ha⟩
  | stops hst hop =>
    obtain rfl : Fault.txPortFailure = f := Host.Outcome.fault.inj (hop.symm.trans h)
    exact hst

theorem operation_not_refused (s : State) (r : Refusal) : operation s ≠ .refused r := by
  cases operation_port s with
  | answers t hop => rw [hop]; exact nofun
  | writes _ l hold k hop => rw [hop]; exact busWrite_not_refused
  | reads _ n k hop => rw [hop]; exact busRead_not_refused
  | puts _ b k hop => rw [hop]; exact txPut_not_refused
  | stops _ hop => rw [hop]; exact nofun

/-- A step stops where its operation does, unless a reset is offered; looking at the reset input moves no stop. -/
theorem step_fault_iff : step s = .fault f ↔ s.resetOffered = false ∧ s.StopsWith f := by
  constructor
  · intro h
    obtain ⟨-, e⟩ | ⟨hr, e⟩ := step_cases s
    · rw [e] at h; cases h
    · exact ⟨hr, stopsWith_of_operation (s := s.sampleReset) (e ▸ h)⟩
  · rintro ⟨hr, h⟩
    exact (step_of_no_reset hr).trans (operation_of_stopsWith (s := s.sampleReset) h)

theorem step_ne_next_of_stopsWith (hr : s.resetOffered = false) (h : s.StopsWith f) : step s ≠ .next t := by
  rw [step_fault_iff.mpr ⟨hr, h⟩]
  exact nofun

theorem step_not_refused (s : State) (r : Refusal) : step s ≠ .refused r := by
  obtain ⟨-, e⟩ | ⟨-, e⟩ := step_cases s
  · rw [e]; exact nofun
  · rw [e]; exact operation_not_refused _ r

/-- Settles O31: a failed put leads to FAULT and adds no byte, FAULT is a stop, and a reset wins over it. -/
theorem outputFailureIsTerminal : Obligations.OutputFailureIsTerminal := by
  refine ⟨fun s hr hfrm ha => ?_, fun s t hst hr => ?_, fun s _ hr => ?_⟩
  · exact ⟨_, [], failedPutChangesOnlySt s hr hfrm ha, rfl, (List.append_nil s.env.txOut).symm⟩
  · exact step_ne_next_of_stopsWith (f := .txPortFailure) hr hst
  · exact ⟨_, step_of_reset hr, s.sampleReset.resetEvent_st⟩

/-- Settles O33: each of the three is a stop. -/
theorem stalledPortsStopTheBlock : Obligations.StalledPortsStopTheBlock := by
  refine ⟨fun s t hr hst ha => ?_, fun s t hr hst ha => ?_, fun s t hr hst ha => ?_⟩
  · exact step_ne_next_of_stopsWith (f := .busStall) hr (.inl ⟨hst, ha⟩)
  · exact step_ne_next_of_stopsWith (f := .busStall) hr (.inr ⟨hst, ha⟩)
  · exact step_ne_next_of_stopsWith (f := .outputStall) hr ⟨hst, ha⟩

/-- The stops as one disjunction over their names. -/
theorem stopsWith_iff : s.StopsWith f ↔
    (f = .txPortFailure ∧ s.st = .fault) ∨
    (f = .busStall ∧ ((s.st = .cycCmd ∧ s.writeAnswer = .neverCompletes) ∨
      ((s.st = .cycRd22 ∨ s.st = .cycRd10) ∧ s.readAnswer = .neverCompletes))) ∨
    (f = .outputStall ∧ s.st.inFrame = true ∧ s.txAnswer = .neverAccepted) := by
  cases f <;> simp [State.StopsWith]

/-- Settles O34: a stop of a step is a stop of the one port its operation uses, or FAULT itself. -/
theorem everyStopIsOneOfThree : Obligations.EveryStopIsOneOfThree :=
  ⟨fun _ _ => step_fault_iff.trans (and_congr_right fun _ => stopsWith_iff), step_not_refused⟩

end Sys2Proof.Machine
end

section
/-! PROOFS of the family 70_reset_and_hazards: the reset event, what it meets, the command input, and that no run from IDLE
shows an unspecified value. -/

namespace Sys2Proof.Machine

variable {s t : State}

/-! The reset event and the reset state. -/

/-- Settles O35: the free values that the reset event draws are the values of the unspecified elements. -/
theorem resetFromAnyState : Obligations.ResetFromAnyState := fun s hr =>
  ⟨_, _, _, _, _, _, _, _, s.sampleReset.resetEvent, step_of_reset hr, State.busy_of_idle (State.resetEvent_st _), rfl⟩

/-- Settles O45: IDLE is no state of the frame encoder. -/
theorem resetMeetsTheFrameInvariant : Obligations.ResetMeetsTheFrameInvariant := State.FrameInv.of_not_inFrame rfl

/-- Settles O48: IDLE is a state neither of the cycle reader nor of the frame encoder. -/
theorem resetMeetsTheScanInvariant : Obligations.ResetMeetsTheScanInvariant := State.ScanInv.of_quiet rfl rfl

/-! The command input. -/

/-- IDLE takes the first byte, where there is one; no other operation touches the bytes offered. -/
theorem OperationResult.cmdIn (h : OperationResult s t) :
    t.env.cmdIn = if s.st = .idle then s.env.cmdIn.tail else s.env.cmdIn := by
  cases h with
  | waits hst hin | starts _ _ hst hin | discards _ _ hst hin => simp [hst, hin]
  | fails hst =>
    have busy : s.st ≠ .idle := fun e => by rw [e] at hst; cases hst
    simp [busy]
  | scanStarts hst | requests hst | readsFull _ _ hst | readsFallback _ _ hst | decodes hst | emitsHeader hst
  | emitsLength hst | emitsSeq hst | emitsPayload hst | emitsCrc hst => simp [hst]

/-- Settles O40: the reset event leaves the environment, and of the operations IDLE alone takes a byte. -/
theorem commandInputIsReadInIdleOnly : Obligations.CommandInputIsReadInIdleOnly := by
  intro s t h
  obtain ⟨hr, rfl⟩ | ⟨hr, hop⟩ := step_next h
  · simp [hr]
  · exact hop.cmdIn.trans (if_congr (by simp [hr]) rfl rfl)

/-! Agreement along a run. -/

/-- IDLE reads none of the elements that may differ, so the others decide agreement. -/
theorem State.Agree.of_idle (hst : s.st = .idle) (params : s.params = t.params) (st : s.st = t.st)
    (seq : s.seq = t.seq) (cycleOk : s.cycleOk = t.cycleOk) (env : s.env = t.env) : s.Agree t where
  params := params
  st := st
  seq := seq
  cycleOk := cycleOk
  env := env
  buf h := by simp [hst, SeqState.inCycle, SeqState.inFrame] at h
  c h := by simp [hst, SeqState.inCycle] at h
  i h := by simp [hst] at h
  rlen h := by simp [hst] at h
  rbuf h := by simp [hst] at h
  crc h := by simp [hst] at h

/-- Outcomes that agree are next states that agree, or one and the same stop. -/
theorem outcomesAgree_cases {o p : Host.Outcome State Fault Refusal} (h : outcomesAgree o p) :
    (∃ s t, o = .next s ∧ p = .next t ∧ s.Agree t) ∨ (∃ f, o = .fault f ∧ p = .fault f) ∨
      (∃ r, o = .refused r ∧ p = .refused r) := by
  cases o with
  | next s => cases p with
    | next t => exact .inl ⟨s, t, rfl, rfl, h⟩
    | fault | refused => cases h
  | fault f => cases p with
    | fault g => exact .inr (.inl ⟨f, rfl, congrArg _ (Eq.symm h)⟩)
    | next | refused => cases h
  | refused r => cases p with
    | refused q => exact .inr (.inr ⟨r, rfl, congrArg _ (Eq.symm h)⟩)
    | next | fault => cases h

/-- Agreement is kept by a run of any length: by each step of it. -/
theorem State.Agree.runSteps (h : s.Agree t) (n : Nat) : outcomesAgree (runSteps n s) (runSteps n t) := by
  induction n generalizing s t with
  | zero => exact h
  | succ n ih =>
    obtain ⟨u, v, hs, ht, agree⟩ | ⟨f, hs, ht⟩ | ⟨r, hs, ht⟩ :=
      outcomesAgree_cases (unspecifiedValuesAreUnobservable s t h)
    · rw [runSteps_succ hs, runSteps_succ ht]
      exact ih agree
    · simp only [Machine.runSteps, hs, ht, outcomesAgree]
    · simp only [Machine.runSteps, hs, ht, outcomesAgree]

/-- Settles O50: in IDLE the two states agree, whatever the unspecified elements hold, and a run keeps agreement. -/
theorem idleRunsDoNotDependOnUnspecifiedValues : Obligations.IdleRunsDoNotDependOnUnspecifiedValues := by
  intro s n buf crc c i rlen rbuf fseq draws hst
  have agree : s.Agree
      { s with buf := buf, crc := crc, c := c, i := i, rlen := rlen, rbuf := rbuf, fseq := fseq, draws := draws } :=
    .of_idle hst rfl rfl rfl rfl rfl
  exact agree.runSteps n

end Sys2Proof.Machine
end
